-- ==== Sys2Proof/Word.lean ====
section
/-!
DEFINITION. The word types of the part's two links. The host link and the station line carry bytes (R171, R113); every other quantity of the
manual is a whole number and is a `Nat` in this model.
-/
namespace Sys2Proof

/-- One byte of the host link (R171) or of the station line (R113). -/
abbrev Byte := BitVec 8

end Sys2Proof
end

