-- ==== Sys2Proof/Config.lean ====
section
/-!
DEFINITION. The capacities, caps and time limits the manual fixes for every part. The manual leaves no value open to the implementation, so
this file holds no opaque constant.
-/
namespace Sys2Proof.Config

/-- Cap of every money accumulator but the overhead account, in cents (R4, R55, R73). -/
def centsCap : Nat := 99999999
/-- Cap of the overhead account, in cents (R63, R73). -/
def overheadCap : Nat := 9999999999
/-- Cap of the makeup count, in decilitres (R63, R153). -/
def makeupCap : Nat := 999999999
/-- Cap of the running counter, of an accrual total and of a step's water total (R66, R67, R179). -/
def wordCap : Nat := 4294967295
/-- Largest slab id (R2). -/
def maxSlabId : Nat := 99999999
/-- Largest location code, job number, material code and step number (R2, R42, R88). -/
def max16 : Nat := 65535
/-- Largest estimate of a job: four times the accumulator cap (R43). -/
def maxEstimate : Nat := 399999996
/-- Records in the stock table (R1). -/
def maxSlabs : Nat := 256
/-- Records in the job table (R42). -/
def maxJobs : Nat := 64
/-- Pieces in one job (R43). -/
def maxPieces : Nat := 40
/-- Placements on one slab (R23). -/
def maxPlacements : Nat := 24
/-- Defect windows on one slab (R2). -/
def maxDefects : Nat := 6
/-- Steps in one station's queue (R80). -/
def maxSteps : Nat := 16
/-- Request frames waiting to be taken (R174). -/
def maxRequests : Nat := 4
/-- Replies waiting to be sent (R174). -/
def maxReplies : Nat := 8
/-- Reports waiting to be sent (R178). -/
def maxReports : Nat := 32
/-- Longest body of a host link frame (R171). -/
def maxBody : Nat := 250
/-- Code of which slot n's floor code is n more (R5). -/
def floorBase : Nat := 65280
/-- Largest handling charge and load charge, in cents (R6, R80). -/
def chargeCap : Nat := 99999
/-- Seconds of the ON phase of priming (R136). -/
def primeOnSeconds : Nat := 40
/-- Seconds of the OFF phase of priming (R136). -/
def primeOffSeconds : Nat := 20
/-- Purge intervals in running minutes by interval index 0 to 7 (R128). -/
def purgeIntervals : List Nat := [20, 30, 45, 60, 90, 120, 180, 240]

end Sys2Proof.Config
end

