-- ==== Sys2Proof/Syntax.lean ====
section
/-!
DEFINITION. The commands of the part: one constructor of `Instr` for each row of spec/opcode_table.json, with the row's operands.

The first 26 rows are events (a reset, a tick, an event of the station line, of a plant point, of the host link). The other 63 are host requests
as they come to be taken (R174). A request carries its tag and its body, and the body is given either as the fields the owning rule names or as
the raw bytes of the frame (R185); both say the same to the part (`Machine.Body.read`).

Fields that come over a link are plain numbers, since the part itself tests their ranges (R175, R176).
-/
namespace Sys2Proof

/-! ### Request bodies -/

/-- The body of a request: its fields, or the bytes of the frame's body. -/
inductive Body (α : Type) where
  | fields (f : α)
  | raw (bytes : List Byte)
  deriving DecidableEq, Repr

/-- A request that carries no field. -/
structure NoFields where
  deriving DecidableEq, Repr

/-- SLAB RECEIVE (R11). -/
structure SlabReceiveReq where
  slabId : Nat
  material : Nat
  thickness : Nat
  xExt : Nat
  yExt : Nat
  trim : Nat
  cost : Nat
  location : Nat
  deriving DecidableEq, Repr

/-- SLAB DEFECT (R12). -/
structure SlabDefectReq where
  slabId : Nat
  x0 : Nat
  y0 : Nat
  x1 : Nat
  y1 : Nat
  deriving DecidableEq, Repr

/-- A request that carries a slab id alone: SLAB RELEASE, SLAB QUERY, SLAB SCRAP (R13, R15, R16). -/
structure SlabIdReq where
  slabId : Nat
  deriving DecidableEq, Repr

/-- SLAB MOVE (R14). -/
structure SlabMoveReq where
  slabId : Nat
  location : Nat
  deriving DecidableEq, Repr

/-- SLAB LIST (R15). -/
structure SlabListReq where
  filter : Nat
  startId : Nat
  deriving DecidableEq, Repr

/-- LOCATE (R9). -/
structure LocateReq where
  location : Nat
  deriving DecidableEq, Repr

/-- ZONE SET (R8). -/
structure ZoneSetReq where
  window : Nat
  base : Nat
  mask : Nat
  kind : Nat
  search : Nat
  charge : Nat
  enabled : Nat
  deriving DecidableEq, Repr

/-- DEFAULT ZONE SET (R8). -/
structure DefaultZoneSetReq where
  kind : Nat
  search : Nat
  charge : Nat
  deriving DecidableEq, Repr

/-- The remnant of SLAB CLOSE (R17). -/
structure RemnantReq where
  remnantId : Nat
  x0 : Nat
  y0 : Nat
  w : Nat
  h : Nat
  deriving DecidableEq, Repr

/-- SLAB CLOSE (R17). -/
structure SlabCloseReq where
  slabId : Nat
  remnant : Option RemnantReq
  deriving DecidableEq, Repr

/-- PLAN SET (R21). -/
structure PlanSetReq where
  kerf : Option Nat
  minRemnant : Option Nat
  deriving DecidableEq, Repr

/-- PLACE (R31). -/
structure PlaceReq where
  slabId : Nat
  job : Nat
  piece : Nat
  x : Nat
  y : Nat
  rotation : Nat
  deriving DecidableEq, Repr

/-- The two forms of PLACE AUTO (R34, R35, R185). -/
inductive PlaceAutoReq where
  | onSlab (slabId job piece : Nat)
  | anySlab (job piece : Nat)
  deriving DecidableEq, Repr

/-- A request that names a piece: UNPLACE, PIECE REMOVE (R37, R49). -/
structure PieceReq where
  job : Nat
  piece : Nat
  deriving DecidableEq, Repr

/-- The two forms of PLAN QUERY (R38, R185). -/
inductive PlanQueryReq where
  | slabForm (slabId start : Nat)
  | jobForm (job piece : Nat)
  deriving DecidableEq, Repr

/-- RESOLVE (R39). -/
structure ResolveReq where
  job : Nat
  piece : Nat
  outcome : Nat
  deriving DecidableEq, Repr

/-- JOB OPEN (R46). -/
structure JobOpenReq where
  job : Nat
  rateSet : Nat
  estimate : Option Nat
  deriving DecidableEq, Repr

/-- JOB SET (R47). An estimate of 0xFFFFFFFF is the word NONE (R185). -/
structure JobSetReq where
  job : Nat
  rateSet : Option Nat
  estimate : Option Nat
  deriving DecidableEq, Repr

/-- JOB LIST (R42). -/
structure JobListReq where
  filter : Nat
  deriving DecidableEq, Repr

/-- JOB QUERY (R57). -/
structure JobQueryReq where
  job : Nat
  start : Nat
  deriving DecidableEq, Repr

/-- PIECE ADD (R48). -/
structure PieceAddReq where
  job : Nat
  piece : Nat
  material : Nat
  xExt : Nat
  yExt : Nat
  grain : Nat
  group : Nat
  deriving DecidableEq, Repr

/-- A request that carries a job number alone: JOB HOLD, JOB RESUME, JOB CLOSE, JOB DISCARD (R50, R51, R52, R54). -/
structure JobReq where
  job : Nat
  deriving DecidableEq, Repr

/-- RATESET SET (R59), the seven rates in the order of R58. -/
structure RatesetSetReq where
  number : Nat
  machineSaw : Nat
  machineJet : Nat
  machineWater : Nat
  toolSaw : Nat
  toolJet : Nat
  toolWater : Nat
  water : Nat
  rounding : Nat
  holdOnSaturate : Nat
  deriving DecidableEq, Repr

/-- RATESET QUERY (R62). -/
structure RatesetQueryReq where
  number : Nat
  clear : Nat
  deriving DecidableEq, Repr

/-- STATION DEFINE (R82). -/
structure StationDefineReq where
  slot : Nat
  address : Nat
  cls : Nat
  flow : Nat
  loadCharge : Nat
  toolLife : Nat
  deriving DecidableEq, Repr

/-- A request that carries a slot alone: STATION REMOVE, STATION QUERY, STEP ABORT, STATION HOLD, STATION RELEASE, FAULT CLEAR (R83, R84, R85, R93). -/
structure SlotReq where
  slot : Nat
  deriving DecidableEq, Repr

/-- LOAD (R86). -/
structure LoadReq where
  slot : Nat
  slabId : Nat
  deriving DecidableEq, Repr

/-- UNLOAD (R87). -/
structure UnloadReq where
  slot : Nat
  location : Nat
  deriving DecidableEq, Repr

/-- The gate of STEP QUEUE (R88). -/
structure GateReq where
  flag : Nat
  sense : Nat
  deriving DecidableEq, Repr

/-- STEP QUEUE (R91): the fields of all three kinds in the order of R88 (R185). -/
structure StepQueueReq where
  slot : Nat
  kind : Nat
  job : Nat
  piece : Nat
  trim : Nat
  winMin : Nat
  winMax : Nat
  targetA : Nat
  targetB : Nat
  form : Nat
  gate : Option GateReq
  deriving DecidableEq, Repr

/-- STEP CANCEL (R92). -/
structure StepCancelReq where
  slot : Nat
  number : Nat
  deriving DecidableEq, Repr

/-- TOOL CHANGE (R96). -/
structure ToolChangeReq where
  slot : Nat
  toolLife : Nat
  deriving DecidableEq, Repr

/-- FLAGS SET (R95): for each flag 0 to 15, no write or a value. -/
structure FlagsSetReq where
  writes : List (Option Nat)
  deriving DecidableEq, Repr

/-- LINE SETTINGS (R126). -/
structure LineSettingsReq where
  interval : Option Nat
  deriving DecidableEq, Repr

/-- LOOP SET (R129), the settings in the order of R128. -/
structure LoopSetReq where
  pump : Option Nat
  capacity : Option Nat
  reserve : Option Nat
  low : Option Nat
  high : Option Nat
  margin : Option Nat
  purgeEnabled : Option Nat
  intervalIndex : Option Nat
  duration : Option Nat
  lateLimit : Option Nat
  supply : Option Nat
  prime : Option Nat
  pulse : Option Nat
  deriving DecidableEq, Repr

/-- LOOP HANDOVER (R149). -/
structure LoopHandoverReq where
  mode : Nat
  deriving DecidableEq, Repr

/-- BANK WRITE (R160): a bank and eight latch values, position 0 first. -/
structure BankWriteReq where
  bank : Nat
  latches : List Nat
  deriving DecidableEq, Repr

/-- POINT SET (R160). -/
structure PointSetReq where
  point : Nat
  value : Nat
  deriving DecidableEq, Repr

/-- BANK READ (R161). -/
structure BankReadReq where
  bank : Nat
  deriving DecidableEq, Repr

/-- POINT MODE (R162). -/
structure PointModeReq where
  point : Nat
  mode : Nat
  deriving DecidableEq, Repr

/-- POINT INVERT (R164). -/
structure PointInvertReq where
  point : Nat
  setting : Nat
  deriving DecidableEq, Repr

/-- EDGE WATCH (R167). -/
structure EdgeWatchReq where
  point : Nat
  watch : Nat
  deriving DecidableEq, Repr

/-- CLOCK SET (R179). -/
structure ClockSetReq where
  value : Nat
  deriving DecidableEq, Repr

/-- SHOP ACCOUNT (R63). -/
structure ShopAccountReq where
  clear : Nat
  deriving DecidableEq, Repr

/-! ### Operands of the events -/

/-- How a frame that the part opened on the station line ended, the failure being a header that no one acknowledged (R114). The two failures by
time are the commands HOLD_LIMIT and FRAME_TIME_LIMIT. -/
inductive FrameEnd where
  | accepted
  | refused
  | failed
  deriving DecidableEq, Repr

/-- The body of a STATE or an ALERT (R187): the line condition code, the elapsed seconds, the disposition code, the measured thickness. -/
structure LineReportReq where
  condition : Nat
  elapsed : Nat
  disposition : Nat
  thickness : Nat
  deriving DecidableEq, Repr

/-- A frame that a station opened, as it stands when it is closed: its header, its kind, its token and its body (R113, R187). -/
structure StationFrame where
  header : Byte
  kind : Byte
  token : Byte
  body : Body LineReportReq
  deriving DecidableEq, Repr

/-- Which wires a stuck line holds low (R125). -/
inductive StuckWires where
  | data
  | clock
  | both
  deriving DecidableEq, Repr

/-- A stuck line as the part finds it (R125): the wires held low when the clear begins, and how many clock pulses of the clear have been driven when the
data wire is held low no more, none where nine pulses do not free it. -/
structure StuckLine where
  wires : StuckWires
  released : Option (Fin 10)
  deriving DecidableEq, Repr

/-- The commands of the part: one constructor for each row of spec/opcode_table.json, in the table's order. -/
inductive Instr where
  /-- Power-on, with the wires of the 32 points as first seen, bit i the wire of point i (R182, R170). -/
  | powerOn (wires : BitVec 32)
  /-- The warm restart takes effect (R181). -/
  | warmRestart
  /-- A second of the part's own seconds passes (R179). -/
  | secondTick
  /-- The level gauge is sampled and reads the counts (R131). -/
  | levelGaugeSample (counts : Fin 4096)
  /-- The seconds part of the running-minutes count has reached 60 (R143). -/
  | runningMinutes
  /-- The priming phase has run its time (R136). -/
  | primingPhase
  /-- The running counter has reached the purge end time (R145). -/
  | purgeComplete
  /-- A due purge has waited the late limit (R146). -/
  | purgeLate
  /-- The poll timer expires (R118). -/
  | pollTimerExpiry
  /-- The line is seen idle; `rival` is the header of another party's frame opened at the same moment as the part's (R117, R123). -/
  | lineIdle (rival : Option Byte)
  /-- Another party opens the line; `header` is the header it sends, absent when the line is busy with no frame (R112, R123). -/
  | openingMark (header : Option Byte)
  /-- A POLL of the part ends (R115). -/
  | poll (outcome : FrameEnd)
  /-- A STEP OFFER of the part ends (R115, R101). -/
  | stepOffer (outcome : FrameEnd)
  /-- A FLOW SET of the part ends (R115). -/
  | flowSet (outcome : FrameEnd)
  /-- A HALT of the part ends (R115). -/
  | halt (outcome : FrameEnd)
  /-- A frame that a station opened is closed, its kind STATE (R119), or a kind that no station's frame has, which is declined at that byte
  (R114). -/
  | state (frame : StationFrame)
  /-- A frame of kind ALERT that a station opened is closed (R122). -/
  | alert (frame : StationFrame)
  /-- The line has stayed idle for 10 ms in the answer window (R119). -/
  | answerWindowTimeout
  /-- A receiver has held the clock low for more than 12 ms; `header` is that of a station's frame being received (R114). -/
  | holdLimit (header : Option Byte)
  /-- A frame is not closed within 30 ms of its opening mark; `header` is that of a station's frame being received (R114). -/
  | frameTimeLimit (header : Option Byte)
  /-- The line has been busy for more than 30 ms outside the part's own frames; on a line already marked stuck, how it stands now (R125). -/
  | lineStuck (held : StuckLine)
  /-- The wire of a point has held a new value for 2 ms (R157). -/
  | pointLevelChange (point : Fin 32) (high : Bool)
  /-- Bytes arrive on the host link, `none` for a byte with a broken stop bit or a line held low (R172). -/
  | hostFrameReceive (bytes : List (Option Byte))
  /-- More than 20 ms pass between two bytes of a host frame (R172). -/
  | interByteTimeout
  /-- The last byte of the frame being sent has been sent (R177). -/
  | frameSent
  /-- A request whose kind names no request is taken (R174). -/
  | unknownKind (kind : Byte) (tag : Byte) (body : List Byte)
  | slabReceive (tag : Byte) (body : Body SlabReceiveReq)
  | slabDefect (tag : Byte) (body : Body SlabDefectReq)
  | slabRelease (tag : Byte) (body : Body SlabIdReq)
  | slabMove (tag : Byte) (body : Body SlabMoveReq)
  | slabQuery (tag : Byte) (body : Body SlabIdReq)
  | slabList (tag : Byte) (body : Body SlabListReq)
  | locate (tag : Byte) (body : Body LocateReq)
  | zoneSet (tag : Byte) (body : Body ZoneSetReq)
  | defaultZoneSet (tag : Byte) (body : Body DefaultZoneSetReq)
  | slabScrap (tag : Byte) (body : Body SlabIdReq)
  | slabClose (tag : Byte) (body : Body SlabCloseReq)
  | planSet (tag : Byte) (body : Body PlanSetReq)
  | place (tag : Byte) (body : Body PlaceReq)
  | placeAuto (tag : Byte) (body : Body PlaceAutoReq)
  | unplace (tag : Byte) (body : Body PieceReq)
  | planQuery (tag : Byte) (body : Body PlanQueryReq)
  | resolve (tag : Byte) (body : Body ResolveReq)
  | jobOpen (tag : Byte) (body : Body JobOpenReq)
  | jobSet (tag : Byte) (body : Body JobSetReq)
  | jobList (tag : Byte) (body : Body JobListReq)
  | jobQuery (tag : Byte) (body : Body JobQueryReq)
  | pieceAdd (tag : Byte) (body : Body PieceAddReq)
  | pieceRemove (tag : Byte) (body : Body PieceReq)
  | jobHold (tag : Byte) (body : Body JobReq)
  | jobResume (tag : Byte) (body : Body JobReq)
  | jobClose (tag : Byte) (body : Body JobReq)
  | jobDiscard (tag : Byte) (body : Body JobReq)
  | ratesetSet (tag : Byte) (body : Body RatesetSetReq)
  | ratesetQuery (tag : Byte) (body : Body RatesetQueryReq)
  | stationDefine (tag : Byte) (body : Body StationDefineReq)
  | stationRemove (tag : Byte) (body : Body SlotReq)
  | stationQuery (tag : Byte) (body : Body SlotReq)
  | load (tag : Byte) (body : Body LoadReq)
  | unload (tag : Byte) (body : Body UnloadReq)
  | stepQueue (tag : Byte) (body : Body StepQueueReq)
  | stepCancel (tag : Byte) (body : Body StepCancelReq)
  | stepAbort (tag : Byte) (body : Body SlotReq)
  | stationHold (tag : Byte) (body : Body SlotReq)
  | stationRelease (tag : Byte) (body : Body SlotReq)
  | faultClear (tag : Byte) (body : Body SlotReq)
  | toolChange (tag : Byte) (body : Body ToolChangeReq)
  | flagsSet (tag : Byte) (body : Body FlagsSetReq)
  | flagsQuery (tag : Byte) (body : Body NoFields)
  | lineSettings (tag : Byte) (body : Body LineSettingsReq)
  | loopSet (tag : Byte) (body : Body LoopSetReq)
  | loopQuery (tag : Byte) (body : Body NoFields)
  | loopStart (tag : Byte) (body : Body NoFields)
  | primeEnd (tag : Byte) (body : Body NoFields)
  | purgeNow (tag : Byte) (body : Body NoFields)
  | loopStandby (tag : Byte) (body : Body NoFields)
  | loopResume (tag : Byte) (body : Body NoFields)
  | loopHandover (tag : Byte) (body : Body LoopHandoverReq)
  | loopReclaim (tag : Byte) (body : Body NoFields)
  | bankWrite (tag : Byte) (body : Body BankWriteReq)
  | pointSet (tag : Byte) (body : Body PointSetReq)
  | bankRead (tag : Byte) (body : Body BankReadReq)
  | pointMode (tag : Byte) (body : Body PointModeReq)
  | pointInvert (tag : Byte) (body : Body PointInvertReq)
  | edgeWatch (tag : Byte) (body : Body EdgeWatchReq)
  | shopStatus (tag : Byte) (body : Body NoFields)
  | clockSet (tag : Byte) (body : Body ClockSetReq)
  | restart (tag : Byte) (body : Body NoFields)
  | shopAccount (tag : Byte) (body : Body ShopAccountReq)
  deriving DecidableEq, Repr

end Sys2Proof
end

