-- ==== Sys2Proof/Decode.lean ====
section
/-!
DEFINITION. Words to commands. The table gives no row any bits: a command comes to the part as an event or as a request, not as a word. So no word
spells a command. The bytes of a request and of a station's report are read in Machine/Messages.lean.
-/
namespace Sys2Proof

/-- The command a word spells by the table's bits: none, since no row gives bits. -/
def decodeTableWord (_nbits _w : Nat) : Option Instr := none

end Sys2Proof
end

