-- ==== Sys2Proof/Machine/Table.lean ====
section
/-!
DEFINITION. Tables of records by number: a list of (number, record) pairs with the numbers strictly rising, so that equal tables are equal lists.
The stock table, the job table, a job's pieces, the station table, the grants, the accruals and the owed marks are held this way.
-/
namespace Sys2Proof.Machine

/-- A table: (number, record) pairs, the numbers strictly rising. -/
abbrev Tbl (α : Type) := List (Nat × α)

/-- The record with number k. -/
def Tbl.get? {α : Type} : Tbl α → Nat → Option α
  | [], _ => none
  | e :: t, k => if e.1 = k then some e.2 else Tbl.get? t k

/-- Write the record with number k, in its place if it is new. -/
def Tbl.put {α : Type} : Tbl α → Nat → α → Tbl α
  | [], k, v => [(k, v)]
  | e :: t, k, v =>
    if k < e.1 then (k, v) :: e :: t
    else if e.1 = k then (k, v) :: t
    else e :: Tbl.put t k v

/-- Remove the record with number k. -/
def Tbl.del {α : Type} (t : Tbl α) (k : Nat) : Tbl α := t.filter (fun e => e.1 != k)

/-- Change the record with number k, if it is there. -/
def Tbl.modify {α : Type} (t : Tbl α) (k : Nat) (f : α → α) : Tbl α :=
  t.map (fun e => if e.1 = k then (e.1, f e.2) else e)

/-- Change every record. -/
def Tbl.mapVals {α : Type} (t : Tbl α) (f : Nat → α → α) : Tbl α := t.map (fun e => (e.1, f e.1 e.2))

/-- The numbers present, rising. -/
def Tbl.keys {α : Type} (t : Tbl α) : List Nat := t.map (·.1)

/-- The canonical form: the numbers strictly rise. -/
abbrev Tbl.sorted {α : Type} (t : Tbl α) : Prop := t.keys.Pairwise (· < ·)

/-- Whether number k is present. -/
def Tbl.has {α : Type} (t : Tbl α) (k : Nat) : Bool := (t.get? k).isSome

end Sys2Proof.Machine
end

