-- ==== Sys2Proof/Machine/State.lean ====
section
/-!
DEFINITION. The state of the part, block by block as the manual divides it (00_scope.md, Functional blocks), and the state after power-on.
-/
namespace Sys2Proof.Machine

/-! ### Enumerations (R183) -/

/-- Kind of a stock record (R1). -/
inductive SlabKind where
  | slab | remnant
  deriving DecidableEq, Repr

/-- State of a slab (R3). -/
inductive SlabState where
  | received | available | allocated | loaded
  deriving DecidableEq, Repr

/-- State of a placement (R24). -/
inductive PlacementState where
  | planned | issued | cut | broken
  deriving DecidableEq, Repr

/-- State of a piece (R44). -/
inductive PieceState where
  | unplaced | planned | issued | cut | broken
  deriving DecidableEq, Repr

/-- State of a job (R45). -/
inductive JobState where
  | opened | held | closing | closed
  deriving DecidableEq, Repr

/-- Cause of a hold (R43). -/
inductive HoldCause where
  | host | saturated
  deriving DecidableEq, Repr

/-- The four accumulators of a job (R55). -/
inductive Accumulator where
  | material | machine | water | tool
  deriving DecidableEq, Repr

/-- Rounding mode of a rate set (R58, R70). -/
inductive Rounding where
  | nearestEven | up | down
  deriving DecidableEq, Repr

/-- Kind of a zone (R6). -/
inductive ZoneKind where
  | store | quarantine
  deriving DecidableEq, Repr

/-- Class of a station (R80). -/
inductive StationClass where
  | bridgeSaw | sawJet | waterjet
  deriving DecidableEq, Repr

/-- Condition of a station (R81). -/
inductive Condition where
  | offline | ready | working | fault | unreachable
  deriving DecidableEq, Repr

/-- Head hold reason of a station (R97). -/
inductive HoldReason where
  | none | jobHeld | toolLow | waterWait | noValve | loopNotReady | stationHold | line
  deriving DecidableEq, Repr

/-- Form of a probe (R88). -/
inductive ProbeForm where
  | plain | strict
  deriving DecidableEq, Repr

/-- Kind of a step with the particulars of the kind (R88). -/
inductive StepKind where
  | cut (job piece : Nat)
  | trim (length : Nat)
  | probe (winMin winMax targetA targetB : Nat) (form : ProbeForm)
  deriving DecidableEq, Repr

/-- State of a step (R89). -/
inductive StepState where
  | queued | waitingWater | offered | inProgress | halting | inDoubt
  deriving DecidableEq, Repr

/-- Outcome of a step that retires (R88, R104). -/
inductive StepOutcome where
  | done | faulted | aborted | skipped | cancelled
  deriving DecidableEq, Repr

/-- Disposition of a piece after an interrupted step (R102 to R109). -/
inductive Disposition where
  | intact | broken
  deriving DecidableEq, Repr

/-- Line condition of a STATE body (R187). -/
inductive LineCondition where
  | ready | working | done | fault
  deriving DecidableEq, Repr

/-- State of the station line as the part records it (R112). -/
inductive LineState where
  | idle | own | other
  deriving DecidableEq, Repr

/-- State of the water loop (R133). -/
inductive LoopState where
  | off | priming | running | purgeWait | purging | standbyWait | standbyPurge | standby | wakePurge | handoverWait | manual | stopped
  deriving DecidableEq, Repr

/-- Deferred request of the water loop (R133). -/
inductive Deferred where
  | none | standby | handover | resume
  deriving DecidableEq, Repr

/-- Handover mode (R149). -/
inductive HandoverMode where
  | full | keepPurge
  deriving DecidableEq, Repr

/-- Mode of a plant point (R156). -/
inductive PointMode where
  | input | output | function
  deriving DecidableEq, Repr

/-- Edge watch of a plant point (R156). -/
inductive Watch where
  | none | rising | falling | both
  deriving DecidableEq, Repr

/-- What a plant point drives (R159, R161). -/
inductive DriveSource where
  | none | latch | function
  deriving DecidableEq, Repr

/-- Status of a reply (R175). -/
inductive Status where
  | ok | adjusted | unknownKind | badLength | badValue | notFound | duplicate | full | wrongState | geometry | zone | inUse | plantStopped
  deriving DecidableEq, Repr

/-- Detail of a GEOMETRY refusal (R175, R183). -/
inductive GeoDetail where
  | outside | defect | overlap | material | matchGroup | zone | noFit
  deriving DecidableEq, Repr

/-! ### Stock Table and Cut Planner -/

/-- A rectangle given by two corners: a defect window (R2). -/
structure Rect where
  x0 : Nat
  y0 : Nat
  x1 : Nat
  y1 : Nat
  deriving DecidableEq, Repr

/-- A placement (R22). -/
structure Placement where
  job : Nat
  piece : Nat
  x : Nat
  y : Nat
  rotated : Bool
  w : Nat
  h : Nat
  state : PlacementState
  marked : Bool
  token : Option Nat
  deriving DecidableEq, Repr

/-- A stock record (R2); its id is its number in the table, its interrupted count is derived (`Slab.interrupted`). -/
structure Slab where
  kind : SlabKind
  parent : Option Nat
  material : Nat
  thickness : Nat
  xExt : Nat
  yExt : Nat
  trim : Nat
  location : Nat
  state : SlabState
  defects : List Rect
  placements : List Placement
  carried : Nat
  capped : Bool
  loadedOn : Option Nat
  deriving DecidableEq, Repr

/-- A zone window (R6). -/
structure ZoneWindow where
  base : Nat
  mask : Nat
  kind : ZoneKind
  search : Bool
  charge : Nat
  enabled : Bool
  deriving DecidableEq, Repr

/-- The default zone (R6). -/
structure DefaultZone where
  kind : ZoneKind
  search : Bool
  charge : Nat
  deriving DecidableEq, Repr

/-- Stock Table: the records, the zone windows 1 to 8 (window k at index k - 1) and the default zone. -/
structure Stk where
  slabs : Tbl Slab
  zones : Vector ZoneWindow 8
  defaultZone : DefaultZone
  deriving DecidableEq, Repr

/-- Cut Planner: the plan settings (R20). The placements stand in the slab records. -/
structure Pln where
  kerf : Nat
  minRemnant : Nat
  deriving DecidableEq, Repr

/-! ### Job Table and Cost Unit -/

/-- A piece (R44); its number is its number in the job's table of pieces. -/
structure Piece where
  material : Nat
  xExt : Nat
  yExt : Nat
  grain : Bool
  group : Nat
  state : PieceState
  settled : Bool
  notMade : Bool
  deriving DecidableEq, Repr

/-- A job (R43); its number is its number in the table, its pending-slab count is derived (`State.pendingSlabs`). -/
structure Job where
  state : JobState
  cause : Option HoldCause
  rateSet : Nat
  estimate : Option Nat
  overEstimate : Bool
  pieces : Tbl Piece
  material : Nat
  machine : Nat
  water : Nat
  tool : Nat
  deriving DecidableEq, Repr

/-- A rate set (R58). -/
structure RateSet where
  machineSaw : Nat
  machineJet : Nat
  machineWater : Nat
  toolSaw : Nat
  toolJet : Nat
  toolWater : Nat
  water : Nat
  rounding : Rounding
  holdOnSaturate : Bool
  inexact : Bool
  saturated : Bool
  deriving DecidableEq, Repr

/-- Job Table: the jobs, the four rate sets and the shop overhead account (R42, R58, R63). -/
structure Jobs where
  jobs : Tbl Job
  rateSets : Vector RateSet 4
  overhead : Nat
  makeup : Nat
  deriving DecidableEq, Repr

/-- An accrual (R66); its station is its number in the table. -/
structure Accrual where
  step : Nat
  rate : Nat
  start : Nat
  total : Nat
  deriving DecidableEq, Repr

/-! ### Station Dispatcher -/

/-- The gate of a step (R88). -/
structure Gate where
  flag : Nat
  sense : Bool
  deriving DecidableEq, Repr

/-- A step in a queue (R88). Besides the manual's fields it keeps the token last given to it, 0 if none, which its STEP OUTCOME report carries
(R104), and whether a plant stop found it OFFERED, so that a HALT follows an accepted offer (R110). -/
structure Step where
  number : Nat
  kind : StepKind
  gate : Option Gate
  state : StepState
  token : Option Nat
  grantHeld : Bool
  water : Nat
  lastToken : Nat
  stopPending : Bool
  deriving DecidableEq, Repr

/-- A station (R80); its slot is its number in the table. -/
structure Station where
  address : Nat
  cls : StationClass
  flow : Nat
  loadCharge : Nat
  condition : Condition
  hold : Bool
  toolLife : Nat
  toolLow : Bool
  loaded : Option Nat
  queue : List Step
  nextStep : Nat
  nextToken : Nat
  failures : Nat
  reason : HoldReason
  deriving DecidableEq, Repr

/-- Station Dispatcher: the station records and the sixteen shop flags as stored; flag 0 reads true whatever is stored (R94, `State.flag`). -/
structure Dsp where
  stations : Tbl Station
  flags : Vector Bool 16
  deriving DecidableEq, Repr

/-! ### Station Line Controller -/

/-- A frame of the part's on the station line (R113): the station's slot and what the frame carries. -/
inductive PartFrame where
  | poll (slot : Nat)
  | offer (slot token kind a b c d : Nat)
  | flowSet (slot flow : Nat)
  | halt (slot token : Nat) (foreign : Bool)
  deriving DecidableEq, Repr

/-- A HALT owed to a station: its token, and whether it names no step of the part (the HALT of R103). -/
structure HaltOwed where
  token : Nat
  foreign : Bool
  deriving DecidableEq, Repr

/-- The part's frame on the line, and whether it came from the send list or from a station's turn (R117, R123). -/
structure OwnFrame where
  frame : PartFrame
  fromList : Bool
  deriving DecidableEq, Repr

/-- How the part stands, as the receiver, toward the frame that another party has on the line (R114, R127). -/
inductive Hearing where
  /-- It acknowledges what it is to acknowledge; so it stands while no such frame is on the line too. -/
  | hearing
  /-- It did not acknowledge the header, which named no station then defined. -/
  | unheard
  /-- It acknowledged the header and acknowledges no more. -/
  | declined
  /-- The frame has failed by time. -/
  | failed
  deriving DecidableEq, Repr

/-- A line-clear sequence: the pulses driven on the clock wire, and whether a closing mark was driven after them (R125). -/
structure LineClear where
  pulses : Nat
  closing : Bool
  deriving DecidableEq, Repr

/-- Station Line Controller (R112 to R127). `clears` holds the line-clear sequences sent for the stuck line that the mark tells of, the last one first, and `freedAfter` what
the next one meets: the clock pulses after which the data wire is released, none where nine do not release it. `joined` counts the frames at the tail of the send list that the present event has handed over (R116), 0 between events. `roundLeft` holds the stations still owed an
exchange in the round in progress, that of the current turn first; `turnHalt` and `turnFlow` say which owed frames the current turn has already
sent. -/
structure Slc where
  line : LineState
  own : Option OwnFrame
  hearing : Hearing
  stuck : Bool
  clears : List LineClear
  freedAfter : Option (Fin 10)
  window : Option Nat
  sendList : List PartFrame
  joined : Nat
  haltOwed : Tbl HaltOwed
  flowOwed : List Nat
  roundLeft : List Nat
  roundOwed : Bool
  turnHalt : Bool
  turnFlow : Bool
  pollInterval : Nat
  timerPeriod : Nat
  deriving DecidableEq, Repr

/-! ### Water Loop Controller -/

/-- The loop settings (R128). -/
structure LoopSettings where
  pump : Nat
  capacity : Nat
  reserve : Nat
  low : Nat
  high : Nat
  margin : Nat
  purgeEnabled : Bool
  intervalIndex : Nat
  duration : Nat
  lateLimit : Nat
  supply : Bool
  prime : Bool
  pulse : Nat
  deriving DecidableEq, Repr

/-- A grant (R138): its flow f and its present rate; its station is its number in the table. -/
structure Grant where
  flow : Nat
  rate : Nat
  deriving DecidableEq, Repr

/-- An entry of the wait list (R137). -/
structure WaitEntry where
  slot : Nat
  flow : Nat
  deriving DecidableEq, Repr

/-- The priming phase and its start (R136). -/
structure Priming where
  on : Bool
  start : Nat
  deriving DecidableEq, Repr

/-- Water Loop Controller (R128 to R155). The purge running mark and the purge end time are `purgeEnd`, present while a purge runs; whether the
transfer pump runs is derived (`Wlc.pumpRunning`). -/
structure Wlc where
  settings : LoopSettings
  state : LoopState
  deferred : Deferred
  handover : Option HandoverMode
  throttled : Bool
  sumpHigh : Bool
  due : Bool
  lateReported : Bool
  lateWait : Nat
  minutes : Nat
  seconds : Nat
  purgeEnd : Option Nat
  priming : Option Priming
  makeupOpen : Bool
  counts : Nat
  volume : Nat
  grants : Tbl Grant
  waitList : List WaitEntry
  deriving DecidableEq, Repr

/-! ### Plant Port -/

/-- A plant point (R156). `plant` is the value, high or low, that the plant offers on the wire past the filter of R157: the wire's own value while the
point does not drive. The wire of every point is derived (`Point.wire`). -/
structure Point where
  mode : PointMode
  latch : Bool
  invert : Bool
  watch : Watch
  plant : Bool
  level : Bool
  deriving DecidableEq, Repr

/-- Plant Port: the 32 points, A0 to A7 at 0 to 7, B0 to B7 at 8 to 15, C0 to C7 at 16 to 23, D0 to D7 at 24 to 31 (R183). -/
structure Ppt where
  points : Vector Point 32
  deriving DecidableEq, Repr

/-! ### Link Controller -/

/-- A complete, checked request frame (R171, R174). -/
structure ReqFrame where
  kind : Byte
  tag : Byte
  body : List Byte
  deriving DecidableEq, Repr

/-- A reply: its status and what follows it in the body (R175, R184). -/
structure Reply where
  status : Status
  results : List Byte
  deriving DecidableEq, Repr

/-- Fields of a STEP OUTCOME report (R104, R185, R186). -/
structure OutcomeRecord where
  slot : Nat
  number : Nat
  kind : Nat
  token : Nat
  outcome : StepOutcome
  disposition : Option Disposition
  job : Nat
  piece : Nat
  slabId : Nat
  seconds : Nat
  water : Nat
  toolLength : Nat
  rateSet : Option Nat
  machinePart : Nat
  waterPart : Nat
  toolPart : Nat
  machineRest : Bool
  waterRest : Bool
  toolRest : Bool
  machineOver : Nat
  waterOver : Nat
  toolOver : Nat
  thickness : Nat
  valueA : Bool
  mirroredA : Bool
  valueB : Bool
  mirroredB : Bool
  deriving DecidableEq, Repr

/-- Fields of a STATION STATE report (R81). -/
structure StationRecord where
  slot : Nat
  condition : Condition
  hold : Bool
  toolLife : Nat
  toolLow : Bool
  reason : HoldReason
  steps : Nat
  deriving DecidableEq, Repr

/-- Fields of a LOOP STATE report (R133). -/
structure LoopRecord where
  new : LoopState
  old : LoopState
  deferred : Deferred
  handover : Option HandoverMode
  minutes : Nat
  due : Bool
  throttled : Bool
  grants : Nat
  deriving DecidableEq, Repr

/-- Fields of a WATER LEVEL report (R132). -/
structure LevelRecord where
  volume : Nat
  counts : Nat
  reserve : Nat
  threshold : Nat
  throttled : Bool
  grants : Nat
  deriving DecidableEq, Repr

/-- One job's entry of a SLAB SETTLED report (R76): its number, placed area, final share and the part of the share that went to overhead. -/
structure ShareEntry where
  job : Nat
  area : Nat
  share : Nat
  excess : Nat
  deriving DecidableEq, Repr

/-- Fields of a SLAB SETTLED report (R76, R185, R186). -/
structure SettledRecord where
  slabId : Nat
  cost : Nat
  gross : Nat
  remnantArea : Nat
  remnantValue : Nat
  remnantId : Nat
  excess : Nat
  overCapped : Bool
  part : Nat
  parts : Nat
  entries : List ShareEntry
  deriving DecidableEq, Repr

/-- Fields of a JOB SETTLED report (R53). -/
structure JobSettledRecord where
  job : Nat
  rateSet : Nat
  material : Nat
  machine : Nat
  water : Nat
  tool : Nat
  estimate : Option Nat
  overEstimate : Bool
  cut : Nat
  broken : Nat
  notMade : Nat
  deriving DecidableEq, Repr

/-- What overflowed in a RATE FLAG report (R60): an accumulator of a job, or a slab's carried cost. -/
inductive Overflowed where
  | job (number : Nat) (acc : Accumulator)
  | slab (id : Nat)
  deriving DecidableEq, Repr

/-- The reports of the part (R178). -/
inductive Report where
  | stepOutcome (r : OutcomeRecord)
  | stationState (r : StationRecord)
  | loopState (r : LoopRecord)
  | waterLevel (r : LevelRecord)
  | purgeLate (waited minutes interval grants : Nat) (state : LoopState)
  | pointEdge (point : Nat) (level : Bool) (mode : PointMode) (source : DriveSource) (clock : Nat)
  | slabSettled (r : SettledRecord)
  | jobSettled (r : JobSettledRecord)
  | overEstimate (job estimate material machine water tool : Nat)
  | rateFlag (rateSet : Nat) (inexact saturated : Bool) (what : Overflowed)
  | reportsDropped (count firstDrop : Nat)
  | lineStuck (wires : StuckWires)
  | plantStop (left : LoopState) (revoked : Nat) (purgeAbandoned : Bool) (minutes : Nat)
  deriving DecidableEq, Repr

/-- A frame waiting to be sent: a reply of the reply list, with its kind and tag, or a report of the report queue, with its stamp (R177). -/
inductive OutFrame where
  | reply (kind tag : Byte) (r : Reply)
  | report (stamp : Nat) (r : Report)
  deriving DecidableEq, Repr

/-- Link Controller. `rx` holds the bytes of the frame being received from its start mark on, none while hunting (R172). `out` is the reply list
and the report queue in their one sending order (R177): the reply list is its replies, the report queue its reports. -/
structure Lnk where
  rx : List Byte
  requests : List ReqFrame
  out : List OutFrame
  dropped : Nat
  firstDrop : Nat
  restartPending : Bool
  deriving DecidableEq, Repr

/-- The two clocks (R179). -/
structure Clk where
  running : Nat
  shop : Nat
  deriving DecidableEq, Repr

/-- The whole part, and the queue of the commands that wait, first in first out. -/
structure State where
  stk : Stk
  pln : Pln
  job : Jobs
  cst : Tbl Accrual
  dsp : Dsp
  slc : Slc
  wlc : Wlc
  ppt : Ppt
  lnk : Lnk
  clk : Clk
  pending : List Instr
  deriving DecidableEq, Repr

/-! ### The values at power-on -/

/-- A zone window at power-on (R6). -/
def ZoneWindow.initial : ZoneWindow :=
  { base := 0, mask := 0, kind := .store, search := true, charge := 0, enabled := false }

/-- A rate set at power-on (R58). -/
def RateSet.initial : RateSet :=
  { machineSaw := 0, machineJet := 0, machineWater := 0, toolSaw := 0, toolJet := 0, toolWater := 0, water := 0,
    rounding := .nearestEven, holdOnSaturate := false, inexact := false, saturated := false }

/-- The loop settings at power-on (R128). -/
def LoopSettings.initial : LoopSettings :=
  { pump := 120, capacity := 4000, reserve := 800, low := 1600, high := 3200, margin := 400, purgeEnabled := false,
    intervalIndex := 3, duration := 3, lateLimit := 20, supply := false, prime := false, pulse := 10 }

/-- A point at power-on with its wire as first seen (R170). -/
def Point.initial (wire : Bool) : Point :=
  { mode := .input, latch := false, invert := false, watch := .none, plant := wire, level := wire }

/-- The Stock Table at power-on (R1, R6). -/
def Stk.initial : Stk :=
  { slabs := [], zones := Vector.replicate 8 ZoneWindow.initial, defaultZone := { kind := .store, search := true, charge := 0 } }

/-- The Cut Planner at power-on (R20). -/
def Pln.initial : Pln := { kerf := 4, minRemnant := 300 }

/-- The Job Table at power-on (R42, R58, R63). -/
def Jobs.initial : Jobs := { jobs := [], rateSets := Vector.replicate 4 RateSet.initial, overhead := 0, makeup := 0 }

/-- The Station Dispatcher at power-on (R111). -/
def Dsp.initial : Dsp := { stations := [], flags := Vector.ofFn (fun i => decide (i.val = 0)) }

/-- The Station Line Controller at power-on (R127). A warm restart starts from the same, with the poll interval kept (`Slc.restarted`). -/
def Slc.initial (interval : Nat) : Slc :=
  { line := .idle, own := none, hearing := .hearing, stuck := false, clears := [], freedAfter := some 0, window := none, sendList := [], joined := 0, haltOwed := [],
    flowOwed := [], roundLeft := [], roundOwed := false, turnHalt := false, turnFlow := false, pollInterval := interval, timerPeriod := interval }

/-- The Water Loop Controller at power-on, and at a warm restart with the settings kept (R155). -/
def Wlc.initial (settings : LoopSettings) : Wlc :=
  { settings := settings, state := .off, deferred := .none, handover := none, throttled := false, sumpHigh := false, due := false,
    lateReported := false, lateWait := 0, minutes := 0, seconds := 0, purgeEnd := none, priming := none, makeupOpen := false,
    counts := 0, volume := 0, grants := [], waitList := [] }

/-- The Plant Port at power-on, with the wires as first seen (R170). -/
def Ppt.initial (wires : BitVec 32) : Ppt := { points := Vector.ofFn (fun i => Point.initial (wires.getLsbD i.val)) }

/-- The Link Controller at power-on (R182), and after a warm restart (R181). -/
def Lnk.initial : Lnk := { rx := [], requests := [], out := [], dropped := 0, firstDrop := 0, restartPending := false }

/-- The part at power-on, with the wires of its points as first seen, and no command waiting (R182). -/
def State.powerOn (wires : BitVec 32) : State :=
  { stk := Stk.initial, pln := Pln.initial, job := Jobs.initial, cst := [], dsp := Dsp.initial, slc := Slc.initial 100,
    wlc := Wlc.initial LoopSettings.initial, ppt := Ppt.initial wires, lnk := Lnk.initial, clk := { running := 0, shop := 0 },
    pending := [] }

/-- The part right after power-on. DESIGN CHOICE: every wire is first seen low (R170 gives no value: the plant does); log entry 1. -/
def State.reset : State := State.powerOn 0#32

/-! ### Stops -/

/-- Why a command stops with a fault. The manual gives every command an effect in every state, so no meaning raises a fault. -/
inductive Fault where
  deriving DecidableEq, Repr

/-- Why a command is refused by the model. -/
inductive Refusal where
  /-- Raised by `exec` for a command that has no meaning yet; safe. No arm raises it: every command has its meaning. -/
  | notModelled (mnemonic : String)
  deriving DecidableEq, Repr

end Sys2Proof.Machine
end

