-- ==== Sys2Proof/Machine/Codes.lean ====
section
/-!
DEFINITION. The field encodings of R183: numbers as bytes, least significant byte first, and the codes of the enumerated values.
-/
namespace Sys2Proof.Machine

/-! ### Numbers as bytes -/

/-- n in w bytes, least significant byte first (R183). -/
def leBytes : Nat → Nat → List Byte
  | 0, _ => []
  | w + 1, n => BitVec.ofNat 8 n :: leBytes w (n / 256)

/-- The number that bytes spell, least significant byte first (R183). -/
def leValue : List Byte → Nat
  | [] => 0
  | b :: t => b.toNat + 256 * leValue t

/-- One byte. -/
def u8 (n : Nat) : List Byte := leBytes 1 n
/-- Two bytes. -/
def u16 (n : Nat) : List Byte := leBytes 2 n
/-- Four bytes. -/
def u32 (n : Nat) : List Byte := leBytes 4 n
/-- Eight bytes. -/
def u64 (n : Nat) : List Byte := leBytes 8 n
/-- A mark, or a yes-or-no value (R183). -/
def mark (b : Bool) : List Byte := u8 (if b then 1 else 0)
/-- A list: a count byte and the entries (R185). -/
def listed {α : Type} (f : α → List Byte) (l : List α) : List Byte := u8 l.length ++ l.flatMap f

/-- The value of a yes-or-no code; none for any other code. -/
def yesNo? : Nat → Option Bool
  | 0 => some false
  | 1 => some true
  | _ => none

/-! ### Enumerations to codes -/

/-- R183. -/
def SlabKind.code : SlabKind → Nat
  | .slab => 0 | .remnant => 1
/-- R183. -/
def SlabState.code : SlabState → Nat
  | .received => 0 | .available => 1 | .allocated => 2 | .loaded => 3
/-- R183. -/
def PlacementState.code : PlacementState → Nat
  | .planned => 0 | .issued => 1 | .cut => 2 | .broken => 3
/-- R183. -/
def PieceState.code : PieceState → Nat
  | .unplaced => 0 | .planned => 1 | .issued => 2 | .cut => 3 | .broken => 4
/-- R183. -/
def JobState.code : JobState → Nat
  | .opened => 0 | .held => 1 | .closing => 2 | .closed => 3
/-- R183 lists no codes for a hold cause; DESIGN CHOICE: 0 none, then 1 HOST and 2 SATURATED in the order of R43 (log entry 4). -/
def HoldCause.code : Option HoldCause → Nat
  | none => 0 | some .host => 1 | some .saturated => 2
/-- R183. -/
def Accumulator.code : Accumulator → Nat
  | .material => 0 | .machine => 1 | .water => 2 | .tool => 3
/-- R183. -/
def Rounding.code : Rounding → Nat
  | .nearestEven => 0 | .up => 1 | .down => 2
/-- R183. -/
def ZoneKind.code : ZoneKind → Nat
  | .store => 0 | .quarantine => 1
/-- R183. -/
def StationClass.code : StationClass → Nat
  | .bridgeSaw => 0 | .sawJet => 1 | .waterjet => 2
/-- R183. -/
def Condition.code : Condition → Nat
  | .offline => 0 | .ready => 1 | .working => 2 | .fault => 3 | .unreachable => 4
/-- R183. -/
def HoldReason.code : HoldReason → Nat
  | .none => 0 | .jobHeld => 1 | .toolLow => 2 | .waterWait => 3 | .noValve => 4 | .loopNotReady => 5 | .stationHold => 6 | .line => 7
/-- R183. -/
def ProbeForm.code : ProbeForm → Nat
  | .plain => 0 | .strict => 1
/-- R183. -/
def StepKind.code : StepKind → Nat
  | .cut .. => 0 | .trim .. => 1 | .probe .. => 2
/-- R183. -/
def StepState.code : StepState → Nat
  | .queued => 0 | .waitingWater => 1 | .offered => 2 | .inProgress => 3 | .halting => 4 | .inDoubt => 5
/-- R183. -/
def StepOutcome.code : StepOutcome → Nat
  | .done => 0 | .faulted => 1 | .aborted => 2 | .skipped => 3 | .cancelled => 4
/-- R183. -/
def Disposition.code : Option Disposition → Nat
  | none => 0 | some .intact => 1 | some .broken => 2
/-- R183. -/
def LoopState.code : LoopState → Nat
  | .off => 0 | .priming => 1 | .running => 2 | .purgeWait => 3 | .purging => 4 | .standbyWait => 5 | .standbyPurge => 6 | .standby => 7
  | .wakePurge => 8 | .handoverWait => 9 | .manual => 10 | .stopped => 11
/-- R183. -/
def Deferred.code : Deferred → Nat
  | .none => 0 | .standby => 1 | .handover => 2 | .resume => 3
/-- R183. -/
def HandoverMode.code : Option HandoverMode → Nat
  | none => 0 | some .full => 1 | some .keepPurge => 2
/-- R183. -/
def PointMode.code : PointMode → Nat
  | .input => 0 | .output => 1 | .function => 2
/-- R183. -/
def Watch.code : Watch → Nat
  | .none => 0 | .rising => 1 | .falling => 2 | .both => 3
/-- R183. -/
def DriveSource.code : DriveSource → Nat
  | .none => 0 | .latch => 1 | .function => 2
/-- R175. -/
def Status.code : Status → Nat
  | .ok => 0 | .adjusted => 1 | .unknownKind => 2 | .badLength => 3 | .badValue => 4 | .notFound => 5 | .duplicate => 6 | .full => 7
  | .wrongState => 8 | .geometry => 9 | .zone => 10 | .inUse => 11 | .plantStopped => 12
/-- R183. -/
def GeoDetail.code : GeoDetail → Nat
  | .outside => 1 | .defect => 2 | .overlap => 3 | .material => 4 | .matchGroup => 5 | .zone => 6 | .noFit => 7
/-- R183. -/
def wiresCode : StuckWires → Nat
  | .data => 1 | .clock => 2 | .both => 3

/-! ### Codes to enumerations; none for a code the list does not hold -/

/-- R183. -/
def ZoneKind.ofCode? : Nat → Option ZoneKind
  | 0 => some .store | 1 => some .quarantine | _ => none
/-- R183. -/
def Rounding.ofCode? : Nat → Option Rounding
  | 0 => some .nearestEven | 1 => some .up | 2 => some .down | _ => none
/-- R183. -/
def StationClass.ofCode? : Nat → Option StationClass
  | 0 => some .bridgeSaw | 1 => some .sawJet | 2 => some .waterjet | _ => none
/-- R183. -/
def ProbeForm.ofCode? : Nat → Option ProbeForm
  | 0 => some .plain | 1 => some .strict | _ => none
/-- R183: LOOP HANDOVER names FULL or KEEP_PURGE. -/
def HandoverMode.ofCode? : Nat → Option HandoverMode
  | 1 => some .full | 2 => some .keepPurge | _ => none
/-- R183. -/
def PointMode.ofCode? : Nat → Option PointMode
  | 0 => some .input | 1 => some .output | 2 => some .function | _ => none
/-- R183. -/
def Watch.ofCode? : Nat → Option Watch
  | 0 => some .none | 1 => some .rising | 2 => some .falling | 3 => some .both | _ => none
/-- R183: the filter of SLAB LIST, `some none` for ANY. -/
def slabFilter? : Nat → Option (Option SlabState)
  | 0 => some (some .received) | 1 => some (some .available) | 2 => some (some .allocated) | 3 => some (some .loaded) | 4 => some none | _ => none
/-- R183: the filter of JOB LIST, `some none` for ANY. -/
def jobFilter? : Nat → Option (Option JobState)
  | 0 => some (some .opened) | 1 => some (some .held) | 2 => some (some .closing) | 3 => some (some .closed) | 4 => some none | _ => none
/-- R183: the outcome of RESOLVE. -/
def resolveOutcome? : Nat → Option PlacementState
  | 2 => some .cut | 3 => some .broken | _ => none
/-- R183: the line condition of a STATE body. -/
def LineCondition.ofCode? : Nat → Option LineCondition
  | 0 => some .ready | 1 => some .working | 2 => some .done | 3 => some .fault | _ => none
/-- R183, R188: the disposition of a STATE body; 0 in a report that ends a step is taken as BROKEN. -/
def Disposition.ofCode? : Nat → Option Disposition
  | 0 => some .broken | 1 => some .intact | 2 => some .broken | _ => none

end Sys2Proof.Machine
end

