-- ==== Sys2Proof/Machine/Messages.lean ====
section
/-!
DEFINITION. The bodies of the host's requests and of a station's reports as bytes: how each is written and how it is read back (R184, R185, R187).
A reader answers none where the body's length, or its presence field, does not suit the kind (BAD_LENGTH, R174).
-/
namespace Sys2Proof

open Sys2Proof.Machine

/-! ### Fields in a row -/

/-- Write fields one after another, each a width in bytes and a value, leaving out the absent ones (R185). -/
def writeFields : List (Nat × Option Nat) → List Byte
  | [] => []
  | (w, some v) :: t => leBytes w v ++ writeFields t
  | (_, none) :: t => writeFields t

/-- Read fields one after another, each a width and whether it is present; none unless the bytes are exactly as long as the fields (R185). -/
def readFields : List (Nat × Bool) → List Byte → Option (List (Option Nat))
  | [], [] => some []
  | [], _ :: _ => none
  | (w, true) :: t, bs =>
    if bs.length < w then none
    else (readFields t (bs.drop w)).map (fun vs => some (leValue (bs.take w)) :: vs)
  | (_, false) :: t, bs => (readFields t bs).map (fun vs => none :: vs)

/-- Fields that are all present. -/
def present (fs : List (Nat × Nat)) : List (Nat × Option Nat) := fs.map (fun f => (f.1, some f.2))

/-- Read fields that are all present. -/
def readAll (ws : List Nat) (bs : List Byte) : Option (List Nat) :=
  (readFields (ws.map (fun w => (w, true))) bs).map (fun vs => vs.map (fun v => v.getD 0))

/-- The presence field's value: the lowest binary digit stands for the first optional field (R185). -/
def presence : List Bool → Nat
  | [] => 0
  | b :: t => (if b then 1 else 0) + 2 * presence t

/-- The digits of a presence field for n optional fields; none where a digit is set beyond them (R185). -/
def presenceBits : Nat → Nat → Option (List Bool)
  | 0, p => if p = 0 then some [] else none
  | n + 1, p => (presenceBits n (p / 2)).map (fun t => decide (p % 2 = 1) :: t)

/-- Read the presence field of pw bytes for n optional fields and what follows it. -/
def readPresence (pw n : Nat) (bs : List Byte) : Option (List Bool × List Byte) :=
  if bs.length < pw then none
  else (presenceBits n (leValue (bs.take pw))).map (fun p => (p, bs.drop pw))

/-! ### The requests that carry all their fields -/

/-- A request with no field allows length 0 alone (R185). -/
def NoFields.write (_ : NoFields) : List Byte := []
/-- R185. -/
def NoFields.read : List Byte → Option NoFields
  | [] => some {}
  | _ :: _ => none

/-- R11, R185. -/
def SlabReceiveReq.layout (r : SlabReceiveReq) : List (Nat × Option Nat) :=
  present [(4, r.slabId), (2, r.material), (2, r.thickness), (2, r.xExt), (2, r.yExt), (2, r.trim), (4, r.cost), (2, r.location)]
/-- The body as bytes (R185). -/
def SlabReceiveReq.write (r : SlabReceiveReq) : List Byte := writeFields r.layout
/-- R11, R185. -/
def SlabReceiveReq.read (bs : List Byte) : Option SlabReceiveReq :=
  match readAll [4, 2, 2, 2, 2, 2, 4, 2] bs with
  | some [slabId, material, thickness, xExt, yExt, trim, cost, location] =>
      some
        { slabId := slabId, material := material, thickness := thickness, xExt := xExt,
          yExt := yExt, trim := trim, cost := cost, location := location }
  | _ => none

/-- R12, R185. -/
def SlabDefectReq.layout (r : SlabDefectReq) : List (Nat × Option Nat) := present [(4, r.slabId), (2, r.x0), (2, r.y0), (2, r.x1), (2, r.y1)]
/-- The body as bytes (R185). -/
def SlabDefectReq.write (r : SlabDefectReq) : List Byte := writeFields r.layout
/-- R12, R185. -/
def SlabDefectReq.read (bs : List Byte) : Option SlabDefectReq :=
  match readAll [4, 2, 2, 2, 2] bs with
  | some [slabId, x0, y0, x1, y1] =>
      some { slabId := slabId, x0 := x0, y0 := y0, x1 := x1, y1 := y1 }
  | _ => none

/-- R13, R15, R16, R185. -/
def SlabIdReq.layout (r : SlabIdReq) : List (Nat × Option Nat) := present [(4, r.slabId)]
/-- The body as bytes (R185). -/
def SlabIdReq.write (r : SlabIdReq) : List Byte := writeFields r.layout
/-- R13, R15, R16, R185. -/
def SlabIdReq.read (bs : List Byte) : Option SlabIdReq :=
  match readAll [4] bs with
  | some [a] => some ⟨a⟩
  | _ => none

/-- R14, R185. -/
def SlabMoveReq.layout (r : SlabMoveReq) : List (Nat × Option Nat) := present [(4, r.slabId), (2, r.location)]
/-- The body as bytes (R185). -/
def SlabMoveReq.write (r : SlabMoveReq) : List Byte := writeFields r.layout
/-- R14, R185. -/
def SlabMoveReq.read (bs : List Byte) : Option SlabMoveReq :=
  match readAll [4, 2] bs with
  | some [a, b] => some ⟨a, b⟩
  | _ => none

/-- R15, R185. -/
def SlabListReq.layout (r : SlabListReq) : List (Nat × Option Nat) := present [(1, r.filter), (4, r.startId)]
/-- The body as bytes (R185). -/
def SlabListReq.write (r : SlabListReq) : List Byte := writeFields r.layout
/-- R15, R185. -/
def SlabListReq.read (bs : List Byte) : Option SlabListReq :=
  match readAll [1, 4] bs with
  | some [a, b] => some ⟨a, b⟩
  | _ => none

/-- R9, R185. -/
def LocateReq.layout (r : LocateReq) : List (Nat × Option Nat) := present [(2, r.location)]
/-- The body as bytes (R185). -/
def LocateReq.write (r : LocateReq) : List Byte := writeFields r.layout
/-- R9, R185. -/
def LocateReq.read (bs : List Byte) : Option LocateReq :=
  match readAll [2] bs with
  | some [a] => some ⟨a⟩
  | _ => none

/-- R8, R185. -/
def ZoneSetReq.layout (r : ZoneSetReq) : List (Nat × Option Nat) :=
  present [(1, r.window), (2, r.base), (2, r.mask), (1, r.kind), (1, r.search), (4, r.charge), (1, r.enabled)]
/-- The body as bytes (R185). -/
def ZoneSetReq.write (r : ZoneSetReq) : List Byte := writeFields r.layout
/-- R8, R185. -/
def ZoneSetReq.read (bs : List Byte) : Option ZoneSetReq :=
  match readAll [1, 2, 2, 1, 1, 4, 1] bs with
  | some [window, base, mask, kind, search, charge, enabled] =>
      some { window := window, base := base, mask := mask, kind := kind, search := search, charge := charge, enabled := enabled }
  | _ => none

/-- R8, R185. -/
def DefaultZoneSetReq.layout (r : DefaultZoneSetReq) : List (Nat × Option Nat) := present [(1, r.kind), (1, r.search), (4, r.charge)]
/-- The body as bytes (R185). -/
def DefaultZoneSetReq.write (r : DefaultZoneSetReq) : List Byte := writeFields r.layout
/-- R8, R185. -/
def DefaultZoneSetReq.read (bs : List Byte) : Option DefaultZoneSetReq :=
  match readAll [1, 1, 4] bs with
  | some [a, b, c] => some ⟨a, b, c⟩
  | _ => none

/-- R31, R185. -/
def PlaceReq.layout (r : PlaceReq) : List (Nat × Option Nat) :=
  present [(4, r.slabId), (2, r.job), (1, r.piece), (2, r.x), (2, r.y), (1, r.rotation)]
/-- The body as bytes (R185). -/
def PlaceReq.write (r : PlaceReq) : List Byte := writeFields r.layout
/-- R31, R185. -/
def PlaceReq.read (bs : List Byte) : Option PlaceReq :=
  match readAll [4, 2, 1, 2, 2, 1] bs with
  | some [slabId, job, piece, x, y, rotation] =>
      some { slabId := slabId, job := job, piece := piece, x := x, y := y, rotation := rotation }
  | _ => none

/-- R34, R35, R185: the two forms are told apart by the length. -/
def PlaceAutoReq.layout : PlaceAutoReq → List (Nat × Option Nat)
  | .onSlab i j p => present [(4, i), (2, j), (1, p)]
  | .anySlab j p => present [(2, j), (1, p)]
/-- The body as bytes (R185). -/
def PlaceAutoReq.write (r : PlaceAutoReq) : List Byte := writeFields r.layout
/-- R34, R35, R185. -/
def PlaceAutoReq.read (bs : List Byte) : Option PlaceAutoReq :=
  match readAll [4, 2, 1] bs, readAll [2, 1] bs with
  | some [i, j, p], _ => some (.onSlab i j p)
  | _, some [j, p] => some (.anySlab j p)
  | _, _ => none

/-- R37, R49, R185. -/
def PieceReq.layout (r : PieceReq) : List (Nat × Option Nat) := present [(2, r.job), (1, r.piece)]
/-- The body as bytes (R185). -/
def PieceReq.write (r : PieceReq) : List Byte := writeFields r.layout
/-- R37, R49, R185. -/
def PieceReq.read (bs : List Byte) : Option PieceReq :=
  match readAll [2, 1] bs with
  | some [a, b] => some ⟨a, b⟩
  | _ => none

/-- R38, R185: the two forms are told apart by the length. -/
def PlanQueryReq.layout : PlanQueryReq → List (Nat × Option Nat)
  | .slabForm i k => present [(4, i), (1, k)]
  | .jobForm j p => present [(2, j), (1, p)]
/-- The body as bytes (R185). -/
def PlanQueryReq.write (r : PlanQueryReq) : List Byte := writeFields r.layout
/-- R38, R185. -/
def PlanQueryReq.read (bs : List Byte) : Option PlanQueryReq :=
  match readAll [4, 1] bs, readAll [2, 1] bs with
  | some [i, k], _ => some (.slabForm i k)
  | _, some [j, p] => some (.jobForm j p)
  | _, _ => none

/-- R39, R185. -/
def ResolveReq.layout (r : ResolveReq) : List (Nat × Option Nat) := present [(2, r.job), (1, r.piece), (1, r.outcome)]
/-- The body as bytes (R185). -/
def ResolveReq.write (r : ResolveReq) : List Byte := writeFields r.layout
/-- R39, R185. -/
def ResolveReq.read (bs : List Byte) : Option ResolveReq :=
  match readAll [2, 1, 1] bs with
  | some [a, b, c] => some ⟨a, b, c⟩
  | _ => none

/-- R42, R185. -/
def JobListReq.layout (r : JobListReq) : List (Nat × Option Nat) := present [(1, r.filter)]
/-- The body as bytes (R185). -/
def JobListReq.write (r : JobListReq) : List Byte := writeFields r.layout
/-- R42, R185. -/
def JobListReq.read (bs : List Byte) : Option JobListReq :=
  match readAll [1] bs with
  | some [a] => some ⟨a⟩
  | _ => none

/-- R57, R185. -/
def JobQueryReq.layout (r : JobQueryReq) : List (Nat × Option Nat) := present [(2, r.job), (1, r.start)]
/-- The body as bytes (R185). -/
def JobQueryReq.write (r : JobQueryReq) : List Byte := writeFields r.layout
/-- R57, R185. -/
def JobQueryReq.read (bs : List Byte) : Option JobQueryReq :=
  match readAll [2, 1] bs with
  | some [a, b] => some ⟨a, b⟩
  | _ => none

/-- R48, R185. -/
def PieceAddReq.layout (r : PieceAddReq) : List (Nat × Option Nat) :=
  present [(2, r.job), (1, r.piece), (2, r.material), (2, r.xExt), (2, r.yExt), (1, r.grain), (1, r.group)]
/-- The body as bytes (R185). -/
def PieceAddReq.write (r : PieceAddReq) : List Byte := writeFields r.layout
/-- R48, R185. -/
def PieceAddReq.read (bs : List Byte) : Option PieceAddReq :=
  match readAll [2, 1, 2, 2, 2, 1, 1] bs with
  | some [job, piece, material, xExt, yExt, grain, group] =>
      some { job := job, piece := piece, material := material, xExt := xExt, yExt := yExt, grain := grain, group := group }
  | _ => none

/-- R50, R51, R52, R54, R185. -/
def JobReq.layout (r : JobReq) : List (Nat × Option Nat) := present [(2, r.job)]
/-- The body as bytes (R185). -/
def JobReq.write (r : JobReq) : List Byte := writeFields r.layout
/-- R50, R51, R52, R54, R185. -/
def JobReq.read (bs : List Byte) : Option JobReq :=
  match readAll [2] bs with
  | some [a] => some ⟨a⟩
  | _ => none

/-- R59, R185. -/
def RatesetSetReq.layout (r : RatesetSetReq) : List (Nat × Option Nat) :=
  present [(1, r.number), (4, r.machineSaw), (4, r.machineJet), (4, r.machineWater), (4, r.toolSaw), (4, r.toolJet), (4, r.toolWater),
    (4, r.water), (1, r.rounding), (1, r.holdOnSaturate)]
/-- The body as bytes (R185). -/
def RatesetSetReq.write (r : RatesetSetReq) : List Byte := writeFields r.layout
/-- R59, R185. -/
def RatesetSetReq.read (bs : List Byte) : Option RatesetSetReq :=
  match readAll [1, 4, 4, 4, 4, 4, 4, 4, 1, 1] bs with
  | some [number, machineSaw, machineJet, machineWater, toolSaw, toolJet, toolWater, water, rounding, holdOnSaturate] =>
      some
        { number := number, machineSaw := machineSaw, machineJet := machineJet, machineWater := machineWater, toolSaw := toolSaw,
          toolJet := toolJet, toolWater := toolWater, water := water, rounding := rounding, holdOnSaturate := holdOnSaturate }
  | _ => none

/-- R62, R185. -/
def RatesetQueryReq.layout (r : RatesetQueryReq) : List (Nat × Option Nat) := present [(1, r.number), (1, r.clear)]
/-- The body as bytes (R185). -/
def RatesetQueryReq.write (r : RatesetQueryReq) : List Byte := writeFields r.layout
/-- R62, R185. -/
def RatesetQueryReq.read (bs : List Byte) : Option RatesetQueryReq :=
  match readAll [1, 1] bs with
  | some [a, b] => some ⟨a, b⟩
  | _ => none

/-- R82, R185. -/
def StationDefineReq.layout (r : StationDefineReq) : List (Nat × Option Nat) :=
  present [(1, r.slot), (1, r.address), (1, r.cls), (1, r.flow), (4, r.loadCharge), (4, r.toolLife)]
/-- The body as bytes (R185). -/
def StationDefineReq.write (r : StationDefineReq) : List Byte := writeFields r.layout
/-- R82, R185. -/
def StationDefineReq.read (bs : List Byte) : Option StationDefineReq :=
  match readAll [1, 1, 1, 1, 4, 4] bs with
  | some [slot, address, cls, flow, loadCharge, toolLife] =>
      some { slot := slot, address := address, cls := cls, flow := flow, loadCharge := loadCharge, toolLife := toolLife }
  | _ => none

/-- R83, R84, R85, R93, R185. -/
def SlotReq.layout (r : SlotReq) : List (Nat × Option Nat) := present [(1, r.slot)]
/-- The body as bytes (R185). -/
def SlotReq.write (r : SlotReq) : List Byte := writeFields r.layout
/-- R83, R84, R85, R93, R185. -/
def SlotReq.read (bs : List Byte) : Option SlotReq :=
  match readAll [1] bs with
  | some [a] => some ⟨a⟩
  | _ => none

/-- R86, R185. -/
def LoadReq.layout (r : LoadReq) : List (Nat × Option Nat) := present [(1, r.slot), (4, r.slabId)]
/-- The body as bytes (R185). -/
def LoadReq.write (r : LoadReq) : List Byte := writeFields r.layout
/-- R86, R185. -/
def LoadReq.read (bs : List Byte) : Option LoadReq :=
  match readAll [1, 4] bs with
  | some [a, b] => some ⟨a, b⟩
  | _ => none

/-- R87, R185. -/
def UnloadReq.layout (r : UnloadReq) : List (Nat × Option Nat) := present [(1, r.slot), (2, r.location)]
/-- The body as bytes (R185). -/
def UnloadReq.write (r : UnloadReq) : List Byte := writeFields r.layout
/-- R87, R185. -/
def UnloadReq.read (bs : List Byte) : Option UnloadReq :=
  match readAll [1, 2] bs with
  | some [a, b] => some ⟨a, b⟩
  | _ => none

/-- R92, R185. -/
def StepCancelReq.layout (r : StepCancelReq) : List (Nat × Option Nat) := present [(1, r.slot), (2, r.number)]
/-- The body as bytes (R185). -/
def StepCancelReq.write (r : StepCancelReq) : List Byte := writeFields r.layout
/-- R92, R185. -/
def StepCancelReq.read (bs : List Byte) : Option StepCancelReq :=
  match readAll [1, 2] bs with
  | some [a, b] => some ⟨a, b⟩
  | _ => none

/-- R96, R185. -/
def ToolChangeReq.layout (r : ToolChangeReq) : List (Nat × Option Nat) := present [(1, r.slot), (4, r.toolLife)]
/-- The body as bytes (R185). -/
def ToolChangeReq.write (r : ToolChangeReq) : List Byte := writeFields r.layout
/-- R96, R185. -/
def ToolChangeReq.read (bs : List Byte) : Option ToolChangeReq :=
  match readAll [1, 4] bs with
  | some [a, b] => some ⟨a, b⟩
  | _ => none

/-- R149, R185. -/
def LoopHandoverReq.layout (r : LoopHandoverReq) : List (Nat × Option Nat) := present [(1, r.mode)]
/-- The body as bytes (R185). -/
def LoopHandoverReq.write (r : LoopHandoverReq) : List Byte := writeFields r.layout
/-- R149, R185. -/
def LoopHandoverReq.read (bs : List Byte) : Option LoopHandoverReq :=
  match readAll [1] bs with
  | some [a] => some ⟨a⟩
  | _ => none

/-- R160, R185. -/
def BankWriteReq.layout (r : BankWriteReq) : List (Nat × Option Nat) := present ((1, r.bank) :: r.latches.map (fun v => (1, v)))
/-- The body as bytes (R185). -/
def BankWriteReq.write (r : BankWriteReq) : List Byte := writeFields r.layout
/-- R160, R185: a bank and eight latch values. -/
def BankWriteReq.read (bs : List Byte) : Option BankWriteReq :=
  match readAll (List.replicate 9 1) bs with
  | some (b :: ls) => some ⟨b, ls⟩
  | _ => none

/-- R160, R185. -/
def PointSetReq.layout (r : PointSetReq) : List (Nat × Option Nat) := present [(1, r.point), (1, r.value)]
/-- The body as bytes (R185). -/
def PointSetReq.write (r : PointSetReq) : List Byte := writeFields r.layout
/-- R160, R185. -/
def PointSetReq.read (bs : List Byte) : Option PointSetReq :=
  match readAll [1, 1] bs with
  | some [a, b] => some ⟨a, b⟩
  | _ => none

/-- R161, R185. -/
def BankReadReq.layout (r : BankReadReq) : List (Nat × Option Nat) := present [(1, r.bank)]
/-- The body as bytes (R185). -/
def BankReadReq.write (r : BankReadReq) : List Byte := writeFields r.layout
/-- R161, R185. -/
def BankReadReq.read (bs : List Byte) : Option BankReadReq :=
  match readAll [1] bs with
  | some [a] => some ⟨a⟩
  | _ => none

/-- R162, R185. -/
def PointModeReq.layout (r : PointModeReq) : List (Nat × Option Nat) := present [(1, r.point), (1, r.mode)]
/-- The body as bytes (R185). -/
def PointModeReq.write (r : PointModeReq) : List Byte := writeFields r.layout
/-- R162, R185. -/
def PointModeReq.read (bs : List Byte) : Option PointModeReq :=
  match readAll [1, 1] bs with
  | some [a, b] => some ⟨a, b⟩
  | _ => none

/-- R164, R185. -/
def PointInvertReq.layout (r : PointInvertReq) : List (Nat × Option Nat) := present [(1, r.point), (1, r.setting)]
/-- The body as bytes (R185). -/
def PointInvertReq.write (r : PointInvertReq) : List Byte := writeFields r.layout
/-- R164, R185. -/
def PointInvertReq.read (bs : List Byte) : Option PointInvertReq :=
  match readAll [1, 1] bs with
  | some [a, b] => some ⟨a, b⟩
  | _ => none

/-- R167, R185. -/
def EdgeWatchReq.layout (r : EdgeWatchReq) : List (Nat × Option Nat) := present [(1, r.point), (1, r.watch)]
/-- The body as bytes (R185). -/
def EdgeWatchReq.write (r : EdgeWatchReq) : List Byte := writeFields r.layout
/-- R167, R185. -/
def EdgeWatchReq.read (bs : List Byte) : Option EdgeWatchReq :=
  match readAll [1, 1] bs with
  | some [a, b] => some ⟨a, b⟩
  | _ => none

/-- R179, R185. -/
def ClockSetReq.layout (r : ClockSetReq) : List (Nat × Option Nat) := present [(4, r.value)]
/-- The body as bytes (R185). -/
def ClockSetReq.write (r : ClockSetReq) : List Byte := writeFields r.layout
/-- R179, R185. -/
def ClockSetReq.read (bs : List Byte) : Option ClockSetReq :=
  match readAll [4] bs with
  | some [a] => some ⟨a⟩
  | _ => none

/-- R63, R185. -/
def ShopAccountReq.layout (r : ShopAccountReq) : List (Nat × Option Nat) := present [(1, r.clear)]
/-- The body as bytes (R185). -/
def ShopAccountReq.write (r : ShopAccountReq) : List Byte := writeFields r.layout
/-- R63, R185. -/
def ShopAccountReq.read (bs : List Byte) : Option ShopAccountReq :=
  match readAll [1] bs with
  | some [a] => some ⟨a⟩
  | _ => none

/-! ### The requests with optional fields: a presence field first (R185) -/

/-- R17, R185: the remnant is one optional item. -/
def SlabCloseReq.layout (r : SlabCloseReq) : List (Nat × Option Nat) :=
  match r.remnant with
  | none => present [(1, 0), (4, r.slabId)]
  | some m => present [(1, 1), (4, r.slabId), (4, m.remnantId), (2, m.x0), (2, m.y0), (2, m.w), (2, m.h)]
/-- The body as bytes (R185). -/
def SlabCloseReq.write (r : SlabCloseReq) : List Byte := writeFields r.layout
/-- R17, R185. -/
def SlabCloseReq.read (bs : List Byte) : Option SlabCloseReq :=
  match readPresence 1 1 bs with
  | some ([false], t) =>
    match readAll [4] t with
    | some [a] => some ⟨a, none⟩
    | _ => none
  | some ([true], t) =>
    match readAll [4, 4, 2, 2, 2, 2] t with
    | some [a, b, c, d, e, f] => some ⟨a, some ⟨b, c, d, e, f⟩⟩
    | _ => none
  | _ => none

/-- R21, R185. -/
def PlanSetReq.layout (r : PlanSetReq) : List (Nat × Option Nat) :=
  [(1, some (presence [r.kerf.isSome, r.minRemnant.isSome])), (2, r.kerf), (2, r.minRemnant)]
/-- The body as bytes (R185). -/
def PlanSetReq.write (r : PlanSetReq) : List Byte := writeFields r.layout
/-- R21, R185. -/
def PlanSetReq.read (bs : List Byte) : Option PlanSetReq :=
  match readPresence 1 2 bs with
  | some ([p, q], t) =>
    match readFields [(2, p), (2, q)] t with
    | some [a, b] => some ⟨a, b⟩
    | _ => none
  | _ => none

/-- R46, R185. -/
def JobOpenReq.layout (r : JobOpenReq) : List (Nat × Option Nat) :=
  [(1, some (presence [r.estimate.isSome])), (2, some r.job), (1, some r.rateSet), (4, r.estimate)]
/-- The body as bytes (R185). -/
def JobOpenReq.write (r : JobOpenReq) : List Byte := writeFields r.layout
/-- R46, R185. -/
def JobOpenReq.read (bs : List Byte) : Option JobOpenReq :=
  match readPresence 1 1 bs with
  | some ([p], t) =>
    match readFields [(2, true), (1, true), (4, p)] t with
    | some [some a, some b, c] => some ⟨a, b, c⟩
    | _ => none
  | _ => none

/-- R47, R185. -/
def JobSetReq.layout (r : JobSetReq) : List (Nat × Option Nat) :=
  [(1, some (presence [r.rateSet.isSome, r.estimate.isSome])), (2, some r.job), (1, r.rateSet), (4, r.estimate)]
/-- The body as bytes (R185). -/
def JobSetReq.write (r : JobSetReq) : List Byte := writeFields r.layout
/-- R47, R185. -/
def JobSetReq.read (bs : List Byte) : Option JobSetReq :=
  match readPresence 1 2 bs with
  | some ([p, q], t) =>
    match readFields [(2, true), (1, p), (4, q)] t with
    | some [some a, b, c] => some ⟨a, b, c⟩
    | _ => none
  | _ => none

/-- R91, R185: the gate is one optional item, after the fields of all three kinds. -/
def StepQueueReq.layout (r : StepQueueReq) : List (Nat × Option Nat) :=
  [(1, some (presence [r.gate.isSome])), (1, some r.slot), (1, some r.kind), (2, some r.job), (1, some r.piece), (2, some r.trim),
    (2, some r.winMin), (2, some r.winMax), (1, some r.targetA), (1, some r.targetB), (1, some r.form),
    (1, r.gate.map (·.flag)), (1, r.gate.map (·.sense))]
/-- The body as bytes (R185). -/
def StepQueueReq.write (r : StepQueueReq) : List Byte := writeFields r.layout
/-- The gate that stands behind the other fields: a flag and a sense, or nothing. -/
def gateOf : List Nat → Option GateReq
  | [flag, sense] => some { flag := flag, sense := sense }
  | _ => none
/-- R91, R185. -/
def StepQueueReq.read (bs : List Byte) : Option StepQueueReq :=
  match readPresence 1 1 bs with
  | some ([gated], rest) =>
    match readAll ([1, 1, 2, 1, 2, 2, 2, 1, 1, 1] ++ List.replicate (if gated then 2 else 0) 1) rest with
    | some (slot :: kind :: job :: piece :: trim :: winMin :: winMax :: targetA :: targetB :: form :: gate) =>
      some
        { slot := slot, kind := kind, job := job, piece := piece, trim := trim, winMin := winMin, winMax := winMax, targetA := targetA,
          targetB := targetB, form := form, gate := gateOf gate }
    | _ => none
  | _ => none

/-- R95, R185: sixteen optional fields under a presence field of two bytes. -/
def FlagsSetReq.layout (r : FlagsSetReq) : List (Nat × Option Nat) :=
  ((2, some (presence (r.writes.map (·.isSome)))) :: r.writes.map (fun v => (1, v)))
/-- The body as bytes (R185). -/
def FlagsSetReq.write (r : FlagsSetReq) : List Byte := writeFields r.layout
/-- R95, R185. -/
def FlagsSetReq.read (bs : List Byte) : Option FlagsSetReq :=
  match readPresence 2 16 bs with
  | some (p, t) => (readFields (p.map (fun b => (1, b))) t).map FlagsSetReq.mk
  | none => none

/-- R126, R185. -/
def LineSettingsReq.layout (r : LineSettingsReq) : List (Nat × Option Nat) :=
  [(1, some (presence [r.interval.isSome])), (2, r.interval)]
/-- The body as bytes (R185). -/
def LineSettingsReq.write (r : LineSettingsReq) : List Byte := writeFields r.layout
/-- R126, R185. -/
def LineSettingsReq.read (bs : List Byte) : Option LineSettingsReq :=
  match readPresence 1 1 bs with
  | some ([p], t) =>
    match readFields [(2, p)] t with
    | some [a] => some ⟨a⟩
    | _ => none
  | _ => none

/-- The thirteen fields of LOOP SET with their widths, in the order of R128. -/
def LoopSetReq.listed (r : LoopSetReq) : List (Nat × Option Nat) :=
  [(2, r.pump), (2, r.capacity), (2, r.reserve), (2, r.low), (2, r.high), (2, r.margin), (1, r.purgeEnabled), (1, r.intervalIndex),
    (1, r.duration), (1, r.lateLimit), (1, r.supply), (1, r.prime), (1, r.pulse)]
/-- R129, R185: thirteen optional fields under a presence field of two bytes. -/
def LoopSetReq.layout (r : LoopSetReq) : List (Nat × Option Nat) :=
  ((2, some (presence (r.listed.map (·.2.isSome)))) :: r.listed)
/-- The body as bytes (R185). -/
def LoopSetReq.write (r : LoopSetReq) : List Byte := writeFields r.layout
/-- R129, R185. -/
def LoopSetReq.read (bs : List Byte) : Option LoopSetReq :=
  match readPresence 2 13 bs with
  | some (p, t) =>
    match readFields (([2, 2, 2, 2, 2, 2, 1, 1, 1, 1, 1, 1, 1] : List Nat).zip p) t with
    | some [pump, capacity, reserve, low, high, margin, purgeEnabled, intervalIndex, duration, lateLimit, supply, prime, pulse] =>
        some
          { pump := pump, capacity := capacity, reserve := reserve, low := low, high := high, margin := margin, purgeEnabled := purgeEnabled,
            intervalIndex := intervalIndex, duration := duration, lateLimit := lateLimit, supply := supply, prime := prime, pulse := pulse }
    | _ => none
  | none => none

/-! ### A station's report (R187) -/

/-- R187: eight bytes. -/
def LineReportReq.layout (r : LineReportReq) : List (Nat × Option Nat) := present [(1, r.condition), (4, r.elapsed), (1, r.disposition), (2, r.thickness)]
/-- The body as bytes (R185). -/
def LineReportReq.write (r : LineReportReq) : List Byte := writeFields r.layout
/-- R187, R188: none unless eight bytes. -/
def LineReportReq.read (bs : List Byte) : Option LineReportReq :=
  match readAll [1, 4, 1, 2] bs with
  | some [a, b, c, d] => some ⟨a, b, c, d⟩
  | _ => none

/-! ### Bodies -/

/-- The fields a body carries; none where its bytes do not suit the kind. -/
def Body.read {α : Type} (parse : List Byte → Option α) : Body α → Option α
  | .fields f => some f
  | .raw bs => parse bs

/-- The bytes a body is on the link. -/
def Body.bytes {α : Type} (write : α → List Byte) : Body α → List Byte
  | .fields f => write f
  | .raw bs => bs

end Sys2Proof
end

