-- ==== Sys2Proof/Machine/Reports.lean ====
section
/-!
DEFINITION. The bytes of what the part sends: the report bodies, the records that replies carry, and the frames of both links (R113, R171, R183 to
R187). Where 10.3 lays a body out, that layout is followed; every other body carries its rule's fields in the rule's order (R185). A field whose
unit R183 does not list takes the fewest bytes (1, 2 or 4) that hold its range; DESIGN CHOICE, log entry 4.
-/
namespace Sys2Proof.Machine

/-! ### Records in replies -/

/-- The placements of the slab that carry the interrupted mark (R2, R25). -/
def Slab.interrupted (sl : Slab) : Nat := (sl.placements.filter (·.marked)).length

/-- A defect window: x0, y0, x1, y1 (R184). -/
def Rect.bytes (r : Rect) : List Byte := u16 r.x0 ++ u16 r.y0 ++ u16 r.x1 ++ u16 r.y1

/-- The slab record of 10.3. -/
def Slab.bytes (id : Nat) (sl : Slab) : List Byte :=
  u32 id ++ u8 sl.kind.code ++ u32 (sl.parent.getD 0) ++ u16 sl.material ++ u16 sl.thickness ++ u16 sl.xExt ++ u16 sl.yExt ++ u8 sl.trim ++
  u16 sl.location ++ u8 sl.state.code ++ u32 sl.carried ++ mark sl.capped ++ u8 (sl.loadedOn.getD 0) ++ u8 sl.placements.length ++
  u8 sl.interrupted ++ listed Rect.bytes sl.defects

/-- The placement record of 10.3. -/
def Placement.bytes (p : Placement) : List Byte :=
  u16 p.job ++ u8 p.piece ++ u16 p.x ++ u16 p.y ++ mark p.rotated ++ u16 p.w ++ u16 p.h ++ u8 p.state.code ++ mark p.marked ++
  u8 (p.token.getD 0)

/-- One piece of a JOB QUERY reply: every field of R44 in its order. -/
def Piece.bytes (n : Nat) (p : Piece) : List Byte :=
  u8 n ++ u16 p.material ++ u16 p.xExt ++ u16 p.yExt ++ mark p.grain ++ u8 p.group ++ u8 p.state.code ++ mark p.settled ++ mark p.notMade

/-- One step of a STATION QUERY reply (R83): its number, kind, state, token when present, its job and piece, its trim length, its probe window.
10.3 does not lay it out. DESIGN CHOICE: the places of all three kinds are carried, with 0 in those that are not of the step's kind; log entry 44. With 16
steps the reply is then the 250 bytes that R171 allows. -/
def Step.bytes (h : Step) : List Byte :=
  u16 h.number ++ u8 h.kind.code ++ u8 h.state.code ++ u8 (h.token.getD 0) ++
  (match h.kind with
    | .cut j p => u16 j ++ u8 p ++ u16 0 ++ u16 0 ++ u16 0
    | .trim len => u16 0 ++ u8 0 ++ u16 len ++ u16 0 ++ u16 0
    | .probe lo hi _ _ _ => u16 0 ++ u8 0 ++ u16 0 ++ u16 lo ++ u16 hi)

/-- The station record of a STATION QUERY reply: the fields of R80 in its order, and the queue, oldest first, at the end (R83, R185). -/
def Station.bytes (slot : Nat) (st : Station) : List Byte :=
  u8 slot ++ u8 st.address ++ u8 st.cls.code ++ u8 st.flow ++ u32 st.loadCharge ++ u8 st.condition.code ++ mark st.hold ++ u32 st.toolLife ++
  mark st.toolLow ++ u32 (st.loaded.getD 0) ++ u16 st.nextStep ++ u8 st.nextToken ++ u8 st.failures ++ u8 st.reason.code ++
  listed Step.bytes st.queue

/-- The fields of a rate set in the order of R58. Every rate is a number of cents, which R183 carries in 4 bytes, those of a range below 10,000 too. -/
def RateSet.bytes (r : RateSet) : List Byte :=
  u32 r.machineSaw ++ u32 r.machineJet ++ u32 r.machineWater ++ u32 r.toolSaw ++ u32 r.toolJet ++ u32 r.toolWater ++ u32 r.water ++
  u8 r.rounding.code ++ mark r.holdOnSaturate ++ mark r.inexact ++ mark r.saturated

/-- The loop settings in the order of R128. -/
def LoopSettings.bytes (s : LoopSettings) : List Byte :=
  u16 s.pump ++ u16 s.capacity ++ u16 s.reserve ++ u16 s.low ++ u16 s.high ++ u16 s.margin ++ mark s.purgeEnabled ++ u8 s.intervalIndex ++
  u8 s.duration ++ u8 s.lateLimit ++ mark s.supply ++ mark s.prime ++ u8 s.pulse

/-! ### Report bodies -/

/-- The kind byte of a report (R184). -/
def Report.kind : Report → Byte
  | .stepOutcome _ => 0x80#8
  | .stationState _ => 0x81#8
  | .loopState _ => 0x82#8
  | .waterLevel _ => 0x83#8
  | .purgeLate .. => 0x84#8
  | .pointEdge .. => 0x85#8
  | .slabSettled _ => 0x86#8
  | .jobSettled _ => 0x87#8
  | .overEstimate .. => 0x88#8
  | .rateFlag .. => 0x89#8
  | .reportsDropped .. => 0x8A#8
  | .lineStuck _ => 0x8B#8
  | .plantStop .. => 0x8C#8

/-- The STEP OUTCOME body of 10.3 past the shop clock. -/
def OutcomeRecord.bytes (r : OutcomeRecord) : List Byte :=
  u8 r.slot ++ u16 r.number ++ u8 r.kind ++ u8 r.token ++ u8 r.outcome.code ++ u8 (Disposition.code r.disposition) ++ u16 r.job ++ u8 r.piece ++
  u32 r.slabId ++ u16 r.seconds ++ u32 r.water ++ u16 r.toolLength ++ u8 (r.rateSet.getD 0xFF) ++ u32 r.machinePart ++ u32 r.waterPart ++
  u32 r.toolPart ++ mark r.machineRest ++ mark r.waterRest ++ mark r.toolRest ++ u32 r.machineOver ++ u32 r.waterOver ++ u32 r.toolOver ++
  u16 r.thickness ++ mark r.valueA ++ mark r.mirroredA ++ mark r.valueB ++ mark r.mirroredB

/-- The SLAB SETTLED body of 10.3 past the shop clock. -/
def SettledRecord.bytes (r : SettledRecord) : List Byte :=
  u32 r.slabId ++ u32 r.cost ++ u32 r.gross ++ u32 r.remnantArea ++ u32 r.remnantValue ++ u32 r.remnantId ++ u64 r.excess ++ mark r.overCapped ++
  u8 r.part ++ u8 r.parts ++ listed (fun e : ShareEntry => u16 e.job ++ u32 e.area ++ u32 e.share ++ u32 e.excess) r.entries

/-- The JOB SETTLED body of 10.3 past the shop clock. -/
def JobSettledRecord.bytes (r : JobSettledRecord) : List Byte :=
  u16 r.job ++ u8 r.rateSet ++ u32 r.material ++ u32 r.machine ++ u32 r.water ++ u32 r.tool ++
  u32 (r.material + r.machine + r.water + r.tool) ++ mark r.estimate.isSome ++ u32 (r.estimate.getD 0) ++ mark r.overEstimate ++
  u8 r.cut ++ u8 r.broken ++ u8 r.notMade

/-- The fields of a report, past the shop clock of its placing (R185, R186). RATE FLAG says which accumulator of which job overflowed, or that a slab's
carried cost did (R60), and 10.3 does not lay it out. DESIGN CHOICE: its body always carries the code, a job number and a slab id, with 0 in the place
of the one it does not name; log entry 34. POINT EDGE carries the shop clock of the change after its drive source, since R167 names it among the fields of
the report and R185 has a body carry, after the shop clock, the fields its rule names; DEDUCED, log entry 46. -/
def Report.fields : Report → List Byte
  | .stepOutcome r => r.bytes
  | .stationState r =>
    u8 r.slot ++ u8 r.condition.code ++ mark r.hold ++ u32 r.toolLife ++ mark r.toolLow ++ u8 r.reason.code ++ u8 r.steps
  | .loopState r =>
    u8 r.new.code ++ u8 r.old.code ++ u8 r.deferred.code ++ u8 (HandoverMode.code r.handover) ++ u16 r.minutes ++ mark r.due ++
    mark r.throttled ++ u8 r.grants
  | .waterLevel r =>
    u16 r.volume ++ u16 r.counts ++ u16 r.reserve ++ u16 r.threshold ++ mark r.throttled ++ u8 r.grants
  | .purgeLate waited minutes interval grants state => u16 waited ++ u16 minutes ++ u8 interval ++ u8 grants ++ u8 state.code
  | .pointEdge point level mode source clock => u8 point ++ mark level ++ u8 mode.code ++ u8 source.code ++ u32 clock
  | .slabSettled r => r.bytes
  | .jobSettled r => r.bytes
  | .overEstimate job estimate a b c d => u16 job ++ u32 estimate ++ u32 a ++ u32 b ++ u32 c ++ u32 d ++ u32 (a + b + c + d)
  | .rateFlag n inexact saturated what =>
    u8 n ++ mark inexact ++ mark saturated ++
    (match what with
      | .job j acc => u8 acc.code ++ u16 j ++ u32 0
      | .slab id => u8 4 ++ u16 0 ++ u32 id)
  | .reportsDropped count firstDrop => u16 count ++ u32 firstDrop
  | .lineStuck wires => u8 (wiresCode wires)
  | .plantStop left revoked abandoned minutes => u8 left.code ++ u8 revoked ++ mark abandoned ++ u16 minutes

/-! ### Host link frames (R171, R184) -/

/-- One bit of the check of R171: polynomial x¹⁶ + x¹² + x⁵ + 1, the register shifted left. -/
def crcShift (r : BitVec 16) : BitVec 16 := if r.msb then (r <<< 1) ^^^ 0x1021#16 else r <<< 1

/-- One byte of the check, most significant bit first. -/
def crcByte (r : BitVec 16) (b : Byte) : BitVec 16 :=
  let x := r ^^^ (b.setWidth 16 <<< 8)
  crcShift (crcShift (crcShift (crcShift (crcShift (crcShift (crcShift (crcShift x)))))))

/-- The check of a run of bytes: the register starts at all ones and is sent as it stands (R171). -/
def crc (bs : List Byte) : BitVec 16 := bs.foldl crcByte 0xFFFF#16

/-- The start mark (R171). -/
def startMark : Byte := 0xC3#8

/-- A whole host link frame: start mark, length, kind, tag, body, check high byte first (R171). -/
def hostFrame (kind tag : Byte) (body : List Byte) : List Byte :=
  let inner := BitVec.ofNat 8 body.length :: kind :: tag :: body
  startMark :: inner ++ [(crc inner >>> 8).setWidth 8, (crc inner).setWidth 8]

/-- The body of a reply: its status, then its results (R184). -/
def Reply.body (r : Reply) : List Byte := u8 r.status.code ++ r.results

/-- The body of a report: the shop clock of its placing, then its fields (R184). -/
def reportBody (stamp : Nat) (r : Report) : List Byte := u32 stamp ++ r.fields

/-- The bytes that a waiting frame is on the wire: a reply carries its kind and tag, a report its kind and tag 0 (R173). -/
def OutFrame.wire : OutFrame → List Byte
  | .reply kind tag r => hostFrame kind tag r.body
  | .report stamp r => hostFrame r.kind 0#8 (reportBody stamp r)

/-! ### Station line frames (R113, R187) -/

/-- The slot a frame of the part's goes to. -/
def PartFrame.slot : PartFrame → Nat
  | .poll n => n
  | .offer n .. => n
  | .flowSet n _ => n
  | .halt n .. => n

/-- The kind byte of a frame of the part's (R187). -/
def PartFrame.kind : PartFrame → Byte
  | .poll _ => 0x01#8
  | .offer .. => 0x02#8
  | .flowSet .. => 0x03#8
  | .halt .. => 0x04#8

/-- The kind byte of a STATE (R187). -/
def stateKind : Byte := 0x08#8
/-- The kind byte of an ALERT (R187). -/
def alertKind : Byte := 0x09#8

/-- The bytes of a frame from a station: header, kind, token, body (R113, R187). -/
def StationFrame.wire (f : StationFrame) : List Byte := f.header :: f.kind :: f.token :: f.body.bytes LineReportReq.write

/-- The bytes of a frame of the part's toward a station at an address: header, kind, token, body (R113, R187). -/
def PartFrame.wire (address : Nat) (f : PartFrame) : List Byte :=
  u8 (2 * address) ++ [f.kind] ++
  (match f with
    | .poll _ => u8 0
    | .offer _ token kind a b c d => u8 token ++ u8 kind ++ u16 a ++ u16 b ++ u16 c ++ u16 d
    | .flowSet _ flow => u8 0 ++ u8 flow
    | .halt _ token _ => u8 token)

end Sys2Proof.Machine
end

