-- ==== Sys2Proof/Machine/Ops.lean ====
section
/-!
DEFINITION. The named operations over the state that every block shares: reading and writing records, placing reports and replies, the saturating
addition, and what the plant points drive.
-/
namespace Sys2Proof.Machine

/-! ### Link: reports and replies -/

/-- Whether a waiting frame is a report. -/
def OutFrame.isReport : OutFrame → Bool
  | .reply .. => false
  | .report .. => true

/-- The number of reports waiting on the report queue (R178). -/
def Lnk.reportCount (l : Lnk) : Nat := (l.out.filter OutFrame.isReport).length

/-- The number of replies waiting on the reply list (R174). -/
def Lnk.replyCount (l : Lnk) : Nat := (l.out.filter (fun f => !f.isReport)).length

/-- Place a report on the report queue; with 32 waiting it is dropped and counted, and the first drop's shop clock is recorded (R178). -/
def State.report (r : Report) (s : State) : State :=
  if s.lnk.reportCount < Config.maxReports then
    { s with lnk := { s.lnk with out := s.lnk.out ++ [.report s.clk.shop r] } }
  else
    { s with lnk := { s.lnk with
        dropped := min (s.lnk.dropped + 1) Config.max16
        firstDrop := if s.lnk.dropped = 0 then s.clk.shop else s.lnk.firstDrop } }

/-- Place a reply on the reply list (R174, R177). -/
def State.addReply (kind tag : Byte) (r : Reply) (s : State) : State :=
  { s with lnk := { s.lnk with out := s.lnk.out ++ [.reply kind tag r] } }

/-! ### Records -/

/-- The stock record with an id (R1). -/
def State.slab? (s : State) (id : Nat) : Option Slab := s.stk.slabs.get? id
/-- The job with a number (R42). -/
def State.job? (s : State) (j : Nat) : Option Job := s.job.jobs.get? j
/-- The piece p of job j. -/
def State.piece? (s : State) (j p : Nat) : Option Piece := (s.job? j).bind (fun jb => jb.pieces.get? p)
/-- The station in a slot (R80). -/
def State.station? (s : State) (n : Nat) : Option Station := s.dsp.stations.get? n
/-- The head step of a station (R89). -/
def State.head? (s : State) (n : Nat) : Option Step := (s.station? n).bind (fun st => st.queue.head?)

/-- Change a stock record. -/
def State.modSlab (id : Nat) (f : Slab → Slab) (s : State) : State :=
  { s with stk := { s.stk with slabs := s.stk.slabs.modify id f } }
/-- Write a stock record. -/
def State.putSlab (id : Nat) (sl : Slab) (s : State) : State :=
  { s with stk := { s.stk with slabs := s.stk.slabs.put id sl } }
/-- Remove a stock record. -/
def State.delSlab (id : Nat) (s : State) : State :=
  { s with stk := { s.stk with slabs := s.stk.slabs.del id } }
/-- Change a job. -/
def State.modJob (j : Nat) (f : Job → Job) (s : State) : State :=
  { s with job := { s.job with jobs := s.job.jobs.modify j f } }
/-- Write a job. -/
def State.putJob (j : Nat) (jb : Job) (s : State) : State :=
  { s with job := { s.job with jobs := s.job.jobs.put j jb } }
/-- Change a piece of a job. -/
def State.modPiece (j p : Nat) (f : Piece → Piece) (s : State) : State :=
  s.modJob j (fun jb => { jb with pieces := jb.pieces.modify p f })
/-- Change a station record. -/
def State.modStation (n : Nat) (f : Station → Station) (s : State) : State :=
  { s with dsp := { s.dsp with stations := s.dsp.stations.modify n f } }
/-- Change the head step of a station. -/
def State.modHead (n : Nat) (f : Step → Step) (s : State) : State :=
  s.modStation n (fun st => { st with queue := match st.queue with | [] => [] | h :: t => f h :: t })
/-- Write the head hold reason of a station (R97). -/
def State.setReason (n : Nat) (r : HoldReason) (s : State) : State := s.modStation n (fun st => { st with reason := r })

/-- The rate set with a number 0 to 3 (R58). -/
def State.rateSet (s : State) (k : Nat) : RateSet := s.job.rateSets[k]?.getD RateSet.initial
/-- Change a rate set. -/
def State.modRateSet (k : Nat) (f : RateSet → RateSet) (s : State) : State :=
  { s with job := { s.job with rateSets := s.job.rateSets.setIfInBounds k (f (s.rateSet k)) } }

/-- Put a STATION STATE report on the report queue (R81). -/
def State.reportStation (n : Nat) (s : State) : State :=
  match s.station? n with
  | none => s
  | some st =>
    s.report (.stationState { slot := n, condition := st.condition, hold := st.hold, toolLife := st.toolLife, toolLow := st.toolLow,
                              reason := st.reason, steps := st.queue.length })

/-- Change the condition of a station; a change places a STATION STATE report (R81). -/
def State.setCondition (n : Nat) (c : Condition) (s : State) : State :=
  match s.station? n with
  | none => s
  | some st => if st.condition = c then s else (s.modStation n (fun st => { st with condition := c })).reportStation n

/-! ### Placements and pieces -/

/-- The placement of piece p of job j in a list of placements. -/
def placementIn (j p : Nat) (ps : List Placement) : Option Placement := ps.find? (fun q => q.job == j && q.piece == p)

/-- The slab that holds the placement of piece p of job j, and the placement (R23). -/
def State.placement? (s : State) (j p : Nat) : Option (Nat × Placement) :=
  s.stk.slabs.findSome? (fun e => (placementIn j p e.2.placements).map (fun q => (e.1, q)))

/-- Change the placement of piece p of job j, on whichever slab holds it. -/
def State.modPlacement (j p : Nat) (f : Placement → Placement) (s : State) : State :=
  { s with stk := { s.stk with slabs := s.stk.slabs.mapVals (fun _ sl =>
      { sl with placements := sl.placements.map (fun q => if q.job == j && q.piece == p then f q else q) }) } }

/-- The state of a piece that mirrors a placement (R26). -/
def PlacementState.toPiece : PlacementState → PieceState
  | .planned => .planned
  | .issued => .issued
  | .cut => .cut
  | .broken => .broken

/-- Change the state of a placement and, in the same event, of its piece (R24, R26). -/
def State.movePlacement (j p : Nat) (st : PlacementState) (s : State) : State :=
  (s.modPlacement j p (fun q => { q with state := st })).modPiece j p (fun pc => { pc with state := st.toPiece })

/-! ### Saturating addition (R73) -/

/-- Add an amount to an account that holds v with a cap: what the account becomes, and the excess. -/
def satAdd (cap v a : Nat) : Nat × Nat := if v + a ≤ cap then (v + a, 0) else (cap, v + a - cap)

/-- Add cents to the overhead account; what exceeds its cap is lost (R63, R73). -/
def State.addOverhead (a : Nat) (s : State) : State :=
  { s with job := { s.job with overhead := (satAdd Config.overheadCap s.job.overhead a).1 } }

/-- Add cents to a slab's carried cost; an excess goes to overhead and sets the cost-capped mark (R4, R73). -/
def State.addCarried (id a : Nat) (s : State) : State :=
  match s.slab? id with
  | none => s
  | some sl =>
    let r := satAdd Config.centsCap sl.carried a
    (s.modSlab id (fun sl => { sl with carried := r.1, capped := sl.capped || decide (r.2 ≠ 0) })).addOverhead r.2

/-! ### Yard locations (R5, R7) -/

/-- The decode of a location code (R7). -/
inductive Decode where
  | floor (slot : Nat)
  | window (number : Nat) (z : ZoneWindow)
  | default (z : DefaultZone)
  deriving DecidableEq, Repr

/-- The slot whose floor code a location code is (R5). -/
def floorSlot? (code : Nat) : Option Nat :=
  if Config.floorBase < code ∧ code ≤ Config.floorBase + 8 then some (code - Config.floorBase) else none

/-- Whether an enabled window matches a code: the same digit as the base wherever the mask has a zero (R7). -/
def ZoneWindow.hits (z : ZoneWindow) (code : Nat) : Bool :=
  z.enabled && ((BitVec.ofNat 16 code ^^^ BitVec.ofNat 16 z.base) &&& ~~~(BitVec.ofNat 16 z.mask) == 0#16)

/-- The lowest-numbered window among those listed, from number k on, that matches a code (R7). -/
def firstWindow? (code : Nat) : Nat → List ZoneWindow → Option (Nat × ZoneWindow)
  | _, [] => none
  | k, z :: t => if z.hits code then some (k, z) else firstWindow? code (k + 1) t

/-- The location decode (R7). -/
def State.decode (s : State) (code : Nat) : Decode :=
  match floorSlot? code with
  | some n => .floor n
  | none =>
    match firstWindow? code 1 s.stk.zones.toList with
    | some (k, z) => .window k z
    | none => .default s.stk.defaultZone

/-- The handling charge of a decode; none for a floor (R5, R6). -/
def Decode.charge : Decode → Nat
  | .floor _ => 0
  | .window _ z => z.charge
  | .default z => z.charge

/-- Whether a decode is to a QUARANTINE zone (R10). -/
def Decode.quarantine : Decode → Bool
  | .floor _ => false
  | .window _ z => z.kind == .quarantine
  | .default z => z.kind == .quarantine

/-- Whether the any-slab search takes a decode in (R5, R6). -/
def Decode.searchable : Decode → Bool
  | .floor _ => false
  | .window _ z => z.search
  | .default z => z.search

/-- The decode as a reply carries it (R9, R183): the kind of decode, its slot or window number, base, mask, kind, search setting and charge, 12 bytes
for every decode. R9 names no number for the default zone, no base and no mask for it, and nothing but the slot for a floor, and 10.3 does not lay the
reply out. DESIGN CHOICE: these places are kept and carry 0; log entry 31. -/
def Decode.bytes : Decode → List Byte
  | .floor n => u8 0 ++ u8 n ++ u16 0 ++ u16 0 ++ u8 0 ++ mark false ++ u32 0
  | .window k z => u8 1 ++ u8 k ++ u16 z.base ++ u16 z.mask ++ u8 z.kind.code ++ mark z.search ++ u32 z.charge
  | .default z => u8 2 ++ u8 0 ++ u16 0 ++ u16 0 ++ u8 z.kind.code ++ mark z.search ++ u32 z.charge

/-- Whether a slab is in quarantine (R10). -/
def State.inQuarantine (s : State) (sl : Slab) : Bool := (s.decode sl.location).quarantine

/-! ### Water loop: what it records and what it asks of its points -/

/-- Whether the loop records the transfer pump as running: a grant is held, or priming is in its ON phase (R134). -/
def Wlc.pumpRunning (w : Wlc) : Bool :=
  !w.grants.isEmpty || (match w.priming with | some p => p.on | none => false)

/-- The sum of the flows of the grants held (R137). -/
def Wlc.flowSum (w : Wlc) : Nat := (w.grants.map (fun e => e.2.flow)).sum

/-- The function level of an output point of banks A and B (R134, R158). -/
def State.functionLevel (s : State) (i : Nat) : Bool :=
  if i < 8 then s.wlc.grants.has (i + 1)
  else if i = 8 then s.wlc.pumpRunning
  else if i = 9 ∨ i = 11 then s.wlc.purgeEnd.isSome
  else if i = 10 then s.wlc.makeupOpen
  else false

/-! ### Plant points (R156 to R168) -/

/-- The point with a code 0 to 31. -/
def State.point (s : State) (i : Nat) : Point := s.ppt.points[i]?.getD (Point.initial false)

/-- Write a point. -/
def State.setPoint (i : Nat) (p : Point) (s : State) : State :=
  { s with ppt := { points := s.ppt.points.setIfInBounds i p } }

/-- What a point drives, by its mode and the loop state (R159). -/
def State.driveSource (s : State) (i : Nat) : DriveSource :=
  match (s.point i).mode with
  | .input => .none
  | .output => .latch
  | .function =>
    if i < 8 then (if s.wlc.state = .manual then .latch else .function)
    else if i < 12 then (if s.wlc.state = .manual ∧ s.wlc.handover = some .full then .latch else .function)
    else .none

/-- The value a point drives; none where it does not drive (R159). -/
def State.drivenValue (s : State) (i : Nat) : Option Bool :=
  match s.driveSource i with
  | .none => none
  | .latch => some (s.point i).latch
  | .function => some (s.functionLevel i)

/-- The level a point has: what it drives, or what the plant holds on its wire through invert (R156). -/
def State.trueLevel (s : State) (i : Nat) : Bool :=
  (s.drivenValue i).getD ((s.point i).plant != (s.point i).invert)

/-- The value of a point's wire in every mode: its level carried through invert. A point that drives puts it there (R159), and one that does not reads
its level from it (R156). -/
def Point.wire (p : Point) : Bool := p.level != p.invert

/-- Whether a watch fires on a change to a level (R167). -/
def Watch.fires : Watch → Bool → Bool
  | .none, _ => false
  | .rising, lv => lv
  | .falling, lv => !lv
  | .both, _ => true

/-- Bring a point's level to what it drives or reads; a change fires its edge watch (R157, R167). -/
def State.refreshPoint (i : Nat) (s : State) : State :=
  let p := s.point i
  let lv := s.trueLevel i
  if lv = p.level then s
  else
    let s := s.setPoint i { p with level := lv }
    if p.watch.fires lv then s.report (.pointEdge i lv p.mode (s.driveSource i) s.clk.shop) else s

/-- Bring the output points A0 to A7 and B0 to B3 to their levels, in ascending order (R133, R168). -/
def State.refreshOutputs (s : State) : State := (List.range 12).foldl (fun s i => s.refreshPoint i) s

/-- Whether point i is in FUNCTION mode. -/
def State.inFunction (s : State) (i : Nat) : Bool := (s.point i).mode == .function

/-! ### Station line: the send list -/

/-- Whether two frames are of one kind to one station, of which the send list holds at most one (R116). -/
def PartFrame.sameKind : PartFrame → PartFrame → Bool
  | .poll n, .poll m => n == m
  | .offer n .., .offer m .. => n == m
  | .flowSet n _, .flowSet m _ => n == m
  | .halt n .., .halt m .. => n == m
  | _, _ => false

/-- Put a frame among those that its event has handed over so far, in ascending slot order and behind those to its own station (R116). -/
def insertFrame (f : PartFrame) : List PartFrame → List PartFrame
  | [] => [f]
  | g :: t => if f.slot < g.slot then f :: g :: t else g :: insertFrame f t

/-- How many entries of the send list stood there before the present event. -/
def Slc.standing (c : Slc) : Nat := c.sendList.length - c.joined

/-- A frame joins the send list: it takes the place of the frame of its kind for its station, or goes behind the entries that stood there before the
present event, among those of the event in ascending slot order (R116). Log entry 14. -/
def Slc.joinFrame (f : PartFrame) (c : Slc) : Slc :=
  let again := c.sendList.any f.sameKind
  { c with
    sendList :=
      if again then c.sendList.map (fun g => if f.sameKind g then f else g)
      else c.sendList.take c.standing ++ insertFrame f (c.sendList.drop c.standing)
    joined := if again then c.joined else c.joined + 1 }

/-- Hand a frame to the line (R116). -/
def State.handFrame (f : PartFrame) (s : State) : State := { s with slc := s.slc.joinFrame f }

/-- Take frames off the send list (R116). -/
def Slc.dropFrames (out : PartFrame → Bool) (c : Slc) : Slc :=
  { c with
    sendList := c.sendList.filter (fun f => !out f)
    joined := ((c.sendList.drop c.standing).filter (fun f => !out f)).length }

/-- Take frames off the send list (R116). -/
def State.dropFrames (out : PartFrame → Bool) (s : State) : State := { s with slc := s.slc.dropFrames out }

/-- An event begins: it has handed no frame over (R116). -/
def State.beginEvent (s : State) : State := { s with slc := { s.slc with joined := 0 } }

/-- An event that began in state `before` ends: the count of the frames it handed over stands again as before it, 0 in every run (R116). -/
def State.endEvent (before : State) (s : State) : State := { s with slc := { s.slc with joined := before.slc.joined } }

/-- What happens within one event of the part (R116). -/
def State.event (act : State → State) (s : State) : State := State.endEvent s (act s.beginEvent)

/-- Whether a frame is a FLOW SET to a station. -/
def PartFrame.isFlowTo (n : Nat) : PartFrame → Bool
  | .flowSet m _ => m == n
  | _ => false
/-- Whether a frame is a HALT to a station. -/
def PartFrame.isHaltTo (n : Nat) : PartFrame → Bool
  | .halt m .. => m == n
  | _ => false
/-- Whether a frame is a STEP OFFER to a station. -/
def PartFrame.isOfferTo (n : Nat) : PartFrame → Bool
  | .offer m .. => m == n
  | _ => false

/-- Clear the HALT owed mark of a station (R116). -/
def State.clearHaltOwed (n : Nat) (s : State) : State :=
  { s with slc := { s.slc with haltOwed := s.slc.haltOwed.del n } }
/-- Clear the FLOW SET owed mark of a station (R116). -/
def State.clearFlowOwed (n : Nat) (s : State) : State :=
  { s with slc := { s.slc with flowOwed := s.slc.flowOwed.filter (fun m => m != n) } }

end Sys2Proof.Machine
end

