-- ==== Sys2Proof/Machine/Flags.lean ====
section
/-!
DEFINITION. The flags: the sixteen shop flags (R94), the two sticky flags of a rate set with the rounding that sets them (R60, R70).
-/
namespace Sys2Proof.Machine

/-! ### Shop flags -/

/-- The value of a shop flag; flag 0 reads true in every state (R94). -/
def State.flag (s : State) (k : Nat) : Bool := if k = 0 then true else s.dsp.flags[k]?.getD false

/-- Whether a shop flag is mirrored: flag 8 + n while Cn is in FUNCTION mode (R94, R166). -/
def State.mirrored (s : State) (k : Nat) : Bool := decide (8 ≤ k ∧ k ≤ 15) && s.inFunction (k + 8)

/-- Store a value in a flag. -/
def State.storeFlag (k : Nat) (v : Bool) (s : State) : State :=
  { s with dsp := { s.dsp with flags := s.dsp.flags.setIfInBounds k v } }

/-- Whether a write from FLAGS SET or a probe is discarded: flag 0, or a mirrored flag (R94). -/
def State.discardsFlag (s : State) (k : Nat) : Bool := k == 0 || s.mirrored k

/-- A write from FLAGS SET or from a probe (R94, R95, R105). -/
def State.writeFlag (k : Nat) (v : Bool) (s : State) : State := if s.discardsFlag k then s else s.storeFlag k v

/-- The sixteen values as they read. -/
def State.flagValues (s : State) : List Bool := (List.range 16).map s.flag

/-- The set of mirrored flags, ascending. -/
def State.mirroredSet (s : State) : List Nat := (List.range 16).filter s.mirrored

/-- Whether a step's gate lets it pass (R98). -/
def State.gatePasses (s : State) : Option Gate → Bool
  | none => true
  | some g => s.flag g.flag == g.sense

/-! ### Rounding and INEXACT -/

/-- A part with numerator n and denominator q brought to whole cents, and whether a part of a cent was discarded or made up (R70). -/
def roundPart (mode : Rounding) (n q : Nat) : Nat × Bool :=
  let a := n / q
  let e := n % q
  (if e = 0 then a
   else match mode with
    | .up => a + 1
    | .down => a
    | .nearestEven => if q < 2 * e then a + 1 else if 2 * e < q then a else if a % 2 = 0 then a else a + 1,
   decide (e ≠ 0))

/-- Set INEXACT in a rate set where a rounding discarded something (R60, R70). -/
def State.noteInexact (k : Nat) (inexact : Bool) (s : State) : State :=
  if inexact then s.modRateSet k (fun r => { r with inexact := true }) else s

/-- Set SATURATED in a rate set; from clear to set it places a RATE FLAG report (R60). -/
def State.noteSaturated (k : Nat) (what : Overflowed) (s : State) : State :=
  if (s.rateSet k).saturated then s
  else
    let s := s.modRateSet k (fun r => { r with saturated := true })
    s.report (.rateFlag k (s.rateSet k).inexact (s.rateSet k).saturated what)

end Sys2Proof.Machine
end

