-- ==== Sys2Proof/Machine/Operands.lean ====
section
/-!
DEFINITION. How a command's operands come to the part: the taking of a host request (R173 to R176), the judging of a frame that a station opened
(R114, R188), and the tests on single fields that many requests share.
-/
namespace Sys2Proof.Machine

/-! ### Answers of a request -/

/-- A refusal: the reply carries the status alone, and nothing changes (R175). -/
def refuse (st : Status) (s : State) : State × Reply := (s, { status := st, results := [] })
/-- A refusal under GEOMETRY carries its detail (R175). -/
def refuseGeometry (d : GeoDetail) (s : State) : State × Reply := (s, { status := .geometry, results := u8 d.code })
/-- An accepted request answers OK and its results (R175). -/
def accept (results : List Byte) (s : State) : State × Reply := (s, { status := .ok, results := results })
/-- An accepted request answers ADJUSTED where it clamped a value (R176). -/
def acceptClamped (clamped : Bool) (results : List Byte) (s : State) : State × Reply :=
  (s, { status := if clamped then .adjusted else .ok, results := results })

/-- A tuning value brought to the nearer end of its range (R176). -/
def clampTo (lo hi v : Nat) : Nat := if v < lo then lo else if hi < v then hi else v

/-- Whether a number lies in a range, both ends in it. -/
def within (lo hi v : Nat) : Bool := decide (lo ≤ v ∧ v ≤ hi)

/-! ### Fields that name a record (R176, R183) -/

/-- A slab id. -/
def slabIdInRange (id : Nat) : Bool := within 1 Config.maxSlabId id
/-- A job number. -/
def jobInRange (j : Nat) : Bool := within 1 Config.max16 j
/-- A piece number. -/
def pieceInRange (p : Nat) : Bool := within 1 Config.maxPieces p
/-- A slot (R80). -/
def slotInRange (n : Nat) : Bool := within 1 8 n
/-- A step number (R90). -/
def stepInRange (k : Nat) : Bool := within 1 Config.max16 k

/-- A request whose naming fields lie in their ranges goes on to the checks of its rule; any other is refused with BAD_VALUE (R176). That this stands
ahead of the owning rule's checks is DEDUCED; log entry 21. -/
def whenNamed (inRange : Bool) (act : State → State × Reply) (s : State) : State × Reply := if inRange then act s else refuse .badValue s

/-- Whether an optional value is absent or holds a property. -/
def optAll (o : Option Nat) (p : Nat → Bool) : Bool :=
  match o with
  | none => true
  | some v => p v

/-! ### Taking a request (R174) -/

/-- Whether the reply list has room (R174). -/
def State.replyRoom (s : State) : Bool := decide (s.lnk.replyCount < Config.maxReplies)

/-- A complete request frame joins the tail of the request list; with 4 waiting, or while a restart waits for its reply to be sent, it is
discarded silently (R174, R181). -/
def State.enqueue (f : ReqFrame) (s : State) : State :=
  if s.lnk.restartPending then s
  else if s.lnk.requests.length < Config.maxRequests then { s with lnk := { s.lnk with requests := s.lnk.requests ++ [f] } }
  else s

/-- The kind byte of the reply to a request (R173). -/
def replyKind (kind : Byte) : Byte := kind + 0x80#8

/-- A request is acted on and its reply joins the reply list in the same event (R116, R174). -/
def State.actOn (f : ReqFrame) (act : State → State × Reply) (s : State) : State :=
  (State.endEvent s (act s.beginEvent).1).addReply (replyKind f.kind) f.tag (act s.beginEvent).2

/-- The taking of a request (R174). It is taken if it stands at the head of the request list, or comes while the list is empty, and the reply
list has room. Otherwise it waits in the list, or joins it. While a restart waits for its reply to be sent, LNK takes no request and discards
it (R181). Log entry 2. -/
def State.takeRequest (f : ReqFrame) (act : State → State × Reply) (s : State) : State :=
  if s.lnk.restartPending then s
  else
    match s.lnk.requests with
    | [] => if s.replyRoom then s.actOn f act else s.enqueue f
    | h :: t =>
      if h = f then
        if s.replyRoom then State.actOn f act { s with lnk := { s.lnk with requests := t } } else s
      else s.enqueue f

/-- The step of a request's row: its frame is taken; a body that does not suit the kind is answered BAD_LENGTH, any other goes to the owning
block (R174). -/
def request {α : Type} (kind : Byte) (parse : List Byte → Option α) (write : α → List Byte) (tag : Byte) (body : Body α)
    (act : α → State → State × Reply) (s : State) : Host.Outcome State Fault Refusal :=
  .next (s.takeRequest { kind := kind, tag := tag, body := body.bytes write } (fun s =>
    match body.read parse with
    | none => refuse .badLength s
    | some r => act r s))

/-- The kinds that name a request (R184). -/
def namesRequest (kind : Nat) : Bool :=
  decide ((0x10 ≤ kind ∧ kind ≤ 0x1A) ∨ (0x20 ≤ kind ∧ kind ≤ 0x25) ∨ (0x30 ≤ kind ∧ kind ≤ 0x3B) ∨ (0x40 ≤ kind ∧ kind ≤ 0x4E) ∨
    (0x50 ≤ kind ∧ kind ≤ 0x58) ∨ (0x60 ≤ kind ∧ kind ≤ 0x65) ∨ (0x70 ≤ kind ∧ kind ≤ 0x73))

/-- The kinds of requests (R173). -/
def isRequestKind (kind : Nat) : Bool := decide (0x10 ≤ kind ∧ kind ≤ 0x7F)

/-! ### A station's report -/

/-- A STATE body as the dispatcher takes it (R102, R188). -/
structure LineReport where
  condition : LineCondition
  elapsed : Nat
  disposition : Disposition
  thickness : Nat
  deriving DecidableEq, Repr

/-- The part's judgement of the body of a STATE or ALERT whose header and kind it acknowledged: accepted with its report, or refused, for a
condition above 3, a disposition above 2, a body closed early or a ninth byte (R114, R188). -/
def judgeBody (body : Body LineReportReq) : Option LineReport :=
  match body.read LineReportReq.read with
  | none => none
  | some r =>
    match LineCondition.ofCode? r.condition, Disposition.ofCode? r.disposition with
    | some c, some d => some { condition := c, elapsed := r.elapsed, disposition := d, thickness := r.thickness }
    | _, _ => none

/-- The slot of the station whose address a header from a station names; none for an even header or an address no station has (R113, R114). -/
def State.slotOfHeader (s : State) (header : Byte) : Option Nat :=
  if header.toNat % 2 = 1 then (s.dsp.stations.find? (fun e => e.2.address == header.toNat / 2)).map (·.1) else none

/-- How the part answers a header that another party sends: it acknowledges an odd one that names a station defined at that moment, and takes an even one
as a busy line and nothing more (R114). -/
def State.hearingOf (s : State) (header : Byte) : Hearing :=
  if header.toNat % 2 = 1 ∧ s.slotOfHeader header = none then .unheard else .hearing

end Sys2Proof.Machine
end

