-- ==== Sys2Proof/Machine/Cost.lean ====
section
/-!
DEFINITION. The Cost Unit: the charges of a step (R64 to R73), the accruals of the grants (R66, R67) and the settlement of a closed slab (R74 to R78).
-/
namespace Sys2Proof.Machine

/-! ### Rates and parts -/

/-- The machine rate of a class (R58, R64). -/
def RateSet.machineRate (r : RateSet) : StationClass → Nat
  | .bridgeSaw => r.machineSaw
  | .sawJet => r.machineJet
  | .waterjet => r.machineWater

/-- The tool rate of a class (R58, R64). -/
def RateSet.toolRate (r : RateSet) : StationClass → Nat
  | .bridgeSaw => r.toolSaw
  | .sawJet => r.toolJet
  | .waterjet => r.toolWater

/-- What a step is charged: its quantities, its rate set, and for each part the cents, whether its rounding discarded something and what of it
went to overhead (R71). -/
structure Charge where
  seconds : Nat
  water : Nat
  toolLength : Nat
  rateSet : Option Nat
  machine : Nat × Bool
  waterPart : Nat × Bool
  tool : Nat × Bool
  machineOver : Nat
  waterOver : Nat
  toolOver : Nat
  deriving DecidableEq, Repr

/-- The figures of a step that is charged nothing: its water total stands in the water field (R186). R183 gives machine seconds no absent value, and R186 does
not name that field of such a step. DESIGN CHOICE: 0; log entry 55. -/
def Charge.nothing (water : Nat) : Charge :=
  { seconds := 0, water := water, toolLength := 0, rateSet := none, machine := (0, false), waterPart := (0, false), tool := (0, false),
    machineOver := 0, waterOver := 0, toolOver := 0 }

/-- The three parts of a step charge under a rate set, computed and rounded each by itself (R69, R70). -/
def RateSet.charge (r : RateSet) (k : Nat) (cls : StationClass) (sec c len : Nat) : Charge :=
  { seconds := sec, water := c, toolLength := len, rateSet := some k,
    machine := roundPart r.rounding (sec * r.machineRate cls) 3600,
    waterPart := roundPart r.rounding (c * r.water) 10000,
    tool := roundPart r.rounding (len * r.toolRate cls) 1000,
    machineOver := 0, waterOver := 0, toolOver := 0 }

/-- Whether any part discarded something (R70). -/
def Charge.inexact (c : Charge) : Bool := c.machine.2 || c.waterPart.2 || c.tool.2

/-! ### Posting to a job (R55, R71, R73) -/

/-- The value of an accumulator. -/
def Job.acc (jb : Job) : Accumulator → Nat
  | .material => jb.material
  | .machine => jb.machine
  | .water => jb.water
  | .tool => jb.tool

/-- Write an accumulator. -/
def Job.setAcc (jb : Job) (a : Accumulator) (v : Nat) : Job :=
  match a with
  | .material => { jb with material := v }
  | .machine => { jb with machine := v }
  | .water => { jb with water := v }
  | .tool => { jb with tool := v }

/-- The sum of the four accumulators (R43). -/
def Job.sum (jb : Job) : Nat := jb.material + jb.machine + jb.water + jb.tool

/-- Hold-on-saturate: an OPEN job becomes HELD with cause SATURATED (R61). -/
def Job.saturate (jb : Job) (hold : Bool) : Job :=
  if hold ∧ jb.state = .opened then { jb with state := .held, cause := some .saturated } else jb

/-- Add an amount to an accumulator of a job. An excess goes to overhead, sets SATURATED in the job's rate set and applies its hold-on-saturate.
Answers the cents sent to overhead and whether the job became HELD (R55, R60, R61, R73). -/
def State.postJob (j : Nat) (a : Accumulator) (amount : Nat) (s : State) : State × Nat × Bool :=
  match s.job? j with
  | none => (s, 0, false)
  | some jb =>
    let r := satAdd Config.centsCap (jb.acc a) amount
    if r.2 = 0 then (s.modJob j (fun jb => jb.setAcc a r.1), 0, false)
    else
      let hold := (s.rateSet jb.rateSet).holdOnSaturate
      let s := (s.modJob j (fun jb => (jb.setAcc a r.1).saturate hold)).addOverhead r.2
      (s.noteSaturated jb.rateSet (.job j a), r.2, hold && jb.state == .opened)

/-- The over-estimate test of a job (R56). -/
def State.testEstimate (j : Nat) (s : State) : State :=
  match s.job? j with
  | none => s
  | some jb =>
    match jb.estimate with
    | none => s
    | some e =>
      if jb.overEstimate = false ∧ e < jb.sum then
        (s.modJob j (fun jb => { jb with overEstimate := true })).report (.overEstimate j e jb.material jb.machine jb.water jb.tool)
      else s

/-- Charge a CUT step to its job: compute the parts under the job's rate set, post machine, water and tool in that order, then test the estimate
(R64, R71). Answers the figures and whether the job became HELD. -/
def State.chargeJob (j : Nat) (cls : StationClass) (sec c len : Nat) (s : State) : State × Charge × Bool :=
  match s.job? j with
  | none => (s, Charge.nothing c, false)
  | some jb =>
    let ch := (s.rateSet jb.rateSet).charge jb.rateSet cls sec c len
    let s := s.noteInexact jb.rateSet ch.inexact
    let p := s.postJob j .machine ch.machine.1
    let q := p.1.postJob j .water ch.waterPart.1
    let r := q.1.postJob j .tool ch.tool.1
    (r.1.testEstimate j, { ch with machineOver := p.2.1, waterOver := q.2.1, toolOver := r.2.1 }, p.2.2 || q.2.2 || r.2.2)

/-- Charge a TRIM or PROBE step to the slab on its station, under rate set 0, in one addition (R72). The whole excess stands in the machine
overhead field (R186). -/
def State.chargeSlab (id : Nat) (cls : StationClass) (sec c len : Nat) (s : State) : State × Charge :=
  let ch := (s.rateSet 0).charge 0 cls sec c len
  let s := s.noteInexact 0 ch.inexact
  match s.slab? id with
  | none => (s, ch)
  | some sl =>
    let x := (satAdd Config.centsCap sl.carried (ch.machine.1 + ch.waterPart.1 + ch.tool.1)).2
    let s := s.addCarried id (ch.machine.1 + ch.waterPart.1 + ch.tool.1)
    (if x = 0 then s else s.noteSaturated 0 (.slab id), { ch with machineOver := x })

/-! ### Accruals (R66, R67) -/

/-- An accrual closed at a boundary of the running counter: its total after the interval (R66). -/
def Accrual.closeAt (a : Accrual) (now : Nat) : Nat := min (a.total + a.rate * (now - a.start) * 100 / 60) Config.wordCap

/-- Take a boundary on a station's accrual and go on at a new rate (R66). -/
def State.accrualBoundary (n rate : Nat) (s : State) : State :=
  { s with cst := s.cst.modify n (fun a => { a with total := a.closeAt s.clk.running, start := s.clk.running, rate := rate }) }

/-- Close a station's accrual and hand its total to the step it was held for (R67). -/
def State.closeAccrual (n : Nat) (s : State) : State :=
  match s.cst.get? n with
  | none => s
  | some a =>
    let total := a.closeAt s.clk.running
    State.modStation n (fun st => { st with queue := st.queue.map (fun h =>
      if h.number = a.step then { h with water := min (h.water + total) Config.wordCap } else h) }) { s with cst := s.cst.del n }

/-! ### Settlement (R74 to R78) -/

/-- The placed area of each job with a placement in a list, the jobs ascending (R74). -/
def placedAreas (ps : List Placement) : Tbl Nat :=
  ps.foldl (fun t q => t.put q.job ((t.get? q.job).getD 0 + q.w * q.h)) []

/-- The base share of an area P_j when D is divided over the whole area P (R75). -/
def baseShare (d p area : Nat) : Nat := d * area / p

/-- The remainder of a share (R75). -/
def shareRest (d p area : Nat) : Nat := d * area % p

/-- How many jobs stand before job j in the order of R75: a larger remainder, or an equal one and a lower number. -/
def shareRank (d p : Nat) (areas : Tbl Nat) (j area : Nat) : Nat :=
  (areas.filter (fun e => decide (shareRest d p area < shareRest d p e.2) ||
    (shareRest d p e.2 == shareRest d p area && decide (e.1 < j)))).length

/-- The final shares of the jobs by largest remainders, the jobs ascending (R75). -/
def finalShares (d : Nat) (areas : Tbl Nat) : Tbl Nat :=
  let p : Nat := (areas.map (fun e => e.2)).sum
  let left := d - (areas.map (fun e => baseShare d p e.2)).sum
  areas.map (fun e => (e.1, baseShare d p e.2 + if shareRank d p areas e.1 e.2 < left then 1 else 0))

/-- The remnant value V (R74). -/
def remnantValue (cost gross remnantArea : Nat) : Nat := cost * remnantArea / gross

/-- Post the final shares in ascending job number, with each job's over-estimate test. Answers the report's entries and whether any job became
HELD (R76). -/
def postShares (areas : Tbl Nat) : Tbl Nat → State → State × List ShareEntry × Bool
  | [], s => (s, [], false)
  | (j, share) :: t, s =>
    let p := s.postJob j .material share
    let r := postShares areas t (p.1.testEstimate j)
    (r.1, { job := j, area := (areas.get? j).getD 0, share := share, excess := p.2.1 } :: r.2.1, p.2.2 || r.2.2)

/-- Whether a placement's state counts its slab as pending for its job: CUT or BROKEN (R53). -/
def PlacementState.consumed : PlacementState → Bool
  | .cut => true
  | .broken => true
  | _ => false

/-- The pending-slab count of a job: the slabs in the table that hold a CUT or BROKEN placement of its pieces (R53). -/
def State.pendingSlabs (s : State) (j : Nat) : Nat :=
  (s.stk.slabs.filter (fun e => e.2.placements.any (fun q => q.job == j && q.state.consumed))).length

/-- The JOB SETTLED report of a job (R53). -/
def Job.settledReport (j : Nat) (jb : Job) : Report :=
  .jobSettled
    { job := j, rateSet := jb.rateSet, material := jb.material, machine := jb.machine, water := jb.water, tool := jb.tool,
      estimate := jb.estimate, overEstimate := jb.overEstimate,
      cut := (jb.pieces.filter (fun e => e.2.state == .cut)).length,
      broken := (jb.pieces.filter (fun e => e.2.state == .broken)).length,
      notMade := (jb.pieces.filter (fun e => e.2.notMade)).length }

/-- A CLOSING job whose pending-slab count has come to 0 becomes CLOSED, with its JOB SETTLED report (R53, R78). -/
def State.closeSettled (j : Nat) (s : State) : State :=
  match s.job? j with
  | none => s
  | some jb =>
    if jb.state = .closing ∧ s.pendingSlabs j = 0 then
      (s.modJob j (fun jb => { jb with state := .closed })).report (Job.settledReport j jb)
    else s

/-- The SLAB SETTLED report of a settlement, in one part for at most 15 jobs and in two for more (R186). -/
def settledReports (r : SettledRecord) (entries : List ShareEntry) : List Report :=
  if entries.length ≤ 15 then [.slabSettled { r with part := 1, parts := 1, entries := entries }]
  else [.slabSettled { r with part := 1, parts := 2, entries := entries.take 15 },
        .slabSettled { r with part := 2, parts := 2, entries := entries.drop 15 }]

/-- Settle a slab: post the shares, or the whole of D to overhead where no area was placed, and place the SLAB SETTLED report (R74 to R77).
Answers the remnant value and whether any job became HELD. The overhead-capped mark is set where the cents sent to overhead ran past its cap. -/
def State.settle (id : Nat) (sl : Slab) (remnantArea remnantId : Nat) (s : State) : State × Nat × Bool :=
  let gross := sl.xExt * sl.yExt
  let v := remnantValue sl.carried gross remnantArea
  let d := sl.carried - v
  let areas := placedAreas sl.placements
  let p : Nat := (areas.map (fun e => e.2)).sum
  let posted := if p = 0 then (s.addOverhead d, [], false) else postShares areas (finalShares d areas) s
  let excess := if p = 0 then d else (posted.2.1.map (fun e => e.excess)).sum
  let r : SettledRecord :=
    { slabId := id, cost := sl.carried, gross := gross, remnantArea := remnantArea, remnantValue := v, remnantId := remnantId, excess := excess,
      overCapped := decide (Config.overheadCap < s.job.overhead + excess), part := 1, parts := 1, entries := [] }
  ((settledReports r posted.2.1).foldl (fun s r => s.report r) posted.1, v, posted.2.2)

end Sys2Proof.Machine
end

