-- ==== Sys2Proof/Machine/Planner.lean ====
section
/-!
DEFINITION. The Cut Planner's arithmetic: the geometry test (R27 to R30), the remnant check (R18), the candidate search on one slab (R33, R34), the
order of the search across the stock (R35, R36), and the making of a placement (R32).
-/
namespace Sys2Proof.Machine

/-! ### Rectangles -/

/-- Whether a rectangle lies inside a slab's usable region (R27, R18). -/
def Slab.inside (sl : Slab) (x y w h : Nat) : Bool :=
  decide (sl.trim ≤ x ∧ sl.trim ≤ y ∧ x + w + sl.trim ≤ sl.xExt ∧ y + h + sl.trim ≤ sl.yExt)

/-- Whether a rectangle is clear of a defect window; touching along an edge is allowed (R27). -/
def Rect.clearOf (d : Rect) (x y w h : Nat) : Bool :=
  decide (x + w ≤ d.x0 ∨ d.x1 ≤ x ∨ y + h ≤ d.y0 ∨ d.y1 ≤ y)

/-- Whether a rectangle is a kerf clear of a placement (R27, R18). -/
def Placement.kerfClear (q : Placement) (k x y w h : Nat) : Bool :=
  decide (x + w + k ≤ q.x ∨ q.x + q.w + k ≤ x ∨ y + h + k ≤ q.y ∨ q.y + q.h + k ≤ y)

/-- The rectangle conditions in their order: the detail of the first that fails, none when all hold (R27). -/
def Slab.rectFault (sl : Slab) (k x y w h : Nat) : Option GeoDetail :=
  if !sl.inside x y w h then some .outside
  else if !sl.defects.all (fun d => d.clearOf x y w h) then some .defect
  else if !sl.placements.all (fun q => q.kerfClear k x y w h) then some .overlap
  else none

/-- The remnant check in its order: the detail of the first condition that fails, none when all hold (R18). -/
def Slab.remnantFault (sl : Slab) (k least : Nat) (m : RemnantReq) : Option GeoDetail :=
  if m.w < least ∨ m.h < least then some .noFit
  else if !sl.inside m.x0 m.y0 m.w m.h then some .outside
  else if !sl.placements.all (fun q => q.kerfClear k m.x0 m.y0 m.w m.h) then some .overlap
  else none

/-- A defect window clipped to a remnant and translated to its origin; none where they share no area (R19). -/
def Rect.carry (d : Rect) (m : RemnantReq) : Option Rect :=
  let x0 := max d.x0 m.x0
  let y0 := max d.y0 m.y0
  let x1 := min d.x1 (m.x0 + m.w)
  let y1 := min d.y1 (m.y0 + m.h)
  if x0 < x1 ∧ y0 < y1 then some { x0 := x0 - m.x0, y0 := y0 - m.y0, x1 := x1 - m.x0, y1 := y1 - m.y0 } else none

/-! ### Conditions on the slab and the piece (R28, R30) -/

/-- The match group of a piece; 0 where there is no such piece. -/
def State.groupOf (s : State) (j p : Nat) : Nat :=
  match s.piece? j p with
  | none => 0
  | some pc => pc.group

/-- Whether every placement of match group g of job j stands on slab id; group 0 is free (R30). -/
def State.matchGroupOk (s : State) (id j g : Nat) : Bool :=
  g == 0 || s.stk.slabs.all (fun e => e.1 == id || e.2.placements.all (fun q => !(q.job == j && s.groupOf j q.piece == g)))

/-- Whether a job takes placements: it is OPEN or HELD (R28). -/
def Job.takesWork (jb : Job) : Bool := jb.state == .opened || jb.state == .held

/-- Checks 4 to 8 of R31, which PLACE and PLACE AUTO on a named slab share (R34): the refusal of the first that fails. -/
def State.placeRefusal (s : State) (id : Nat) (sl : Slab) (j : Nat) (jb : Job) (pc : Piece) : Option Reply :=
  if pc.state ≠ .unplaced ∨ !jb.takesWork ∨ sl.state = .received then some { status := .wrongState, results := [] }
  else if Config.maxPlacements ≤ sl.placements.length then some { status := .full, results := [] }
  else if s.inQuarantine sl then some { status := .geometry, results := u8 GeoDetail.zone.code }
  else if pc.material ≠ sl.material then some { status := .geometry, results := u8 GeoDetail.material.code }
  else if !s.matchGroupOk id j pc.group then some { status := .geometry, results := u8 GeoDetail.matchGroup.code }
  else none

/-! ### The candidate search on one slab -/

/-- Put a corner in a list sorted by y and then x, once (R33). -/
def insertCorner (c : Nat × Nat) : List (Nat × Nat) → List (Nat × Nat)
  | [] => [c]
  | d :: t =>
    if c = d then d :: t
    else if c.2 < d.2 ∨ (c.2 = d.2 ∧ c.1 < d.1) then c :: d :: t
    else d :: insertCorner c t

/-- The corners of R33 before they are raised and sorted. -/
def Slab.rawCorners (sl : Slab) (k : Nat) : List (Nat × Nat) :=
  (sl.trim, sl.trim) ::
    sl.placements.flatMap (fun q => [(q.x + q.w + k, q.y), (q.x, q.y + q.h + k)]) ++
    sl.defects.flatMap (fun d => [(d.x1, max sl.trim d.y0), (max sl.trim d.x0, d.y1)])

/-- The candidate list: raised to the trim margin, each corner once, by y and then x (R33). -/
def Slab.candidates (sl : Slab) (k : Nat) : List (Nat × Nat) :=
  (sl.rawCorners k).foldl (fun l c => insertCorner (max sl.trim c.1, max sl.trim c.2) l) []

/-- The first corner and orientation at which a piece passes the rectangle conditions: unrotated, then rotated unless grain-locked (R34). -/
def Slab.fitAt (sl : Slab) (k : Nat) (pc : Piece) : List (Nat × Nat) → Option (Nat × Nat × Bool)
  | [] => none
  | c :: t =>
    if sl.rectFault k c.1 c.2 pc.xExt pc.yExt = none then some (c.1, c.2, false)
    else if pc.grain = false ∧ sl.rectFault k c.1 c.2 pc.yExt pc.xExt = none then some (c.1, c.2, true)
    else sl.fitAt k pc t

/-- The candidate search on a slab (R34). -/
def Slab.fit (sl : Slab) (k : Nat) (pc : Piece) : Option (Nat × Nat × Bool) := sl.fitAt k pc (sl.candidates k)

/-! ### The search across the stock -/

/-- Whether a slab is eligible for the search across the stock (R35). -/
def State.eligible (s : State) (j : Nat) (pc : Piece) (id : Nat) (sl : Slab) : Bool :=
  (sl.state == .available || sl.state == .allocated) && sl.material == pc.material && !s.inQuarantine sl &&
  (s.decode sl.location).searchable && decide (sl.placements.length < Config.maxPlacements) && s.matchGroupOk id j pc.group

/-- Whether a slab is tried before another: remnants first, then smaller gross area, then lower id (R36). -/
def triedBefore (a b : Nat × Slab) : Bool :=
  let ra := a.2.kind.code
  let rb := b.2.kind.code
  let ga := a.2.xExt * a.2.yExt
  let gb := b.2.xExt * b.2.yExt
  decide (rb < ra ∨ (ra = rb ∧ (ga < gb ∨ (ga = gb ∧ a.1 < b.1))))

/-- Put a slab in a list in the order of R36. -/
def insertSlab (a : Nat × Slab) : List (Nat × Slab) → List (Nat × Slab)
  | [] => [a]
  | b :: t => if triedBefore a b then a :: b :: t else b :: insertSlab a t

/-- The eligible slabs in the order they are tried (R35, R36). -/
def State.searchOrder (s : State) (j : Nat) (pc : Piece) : List (Nat × Slab) :=
  (s.stk.slabs.filter (fun e => s.eligible j pc e.1 e.2)).foldl (fun l e => insertSlab e l) []

/-- The first slab of a list that takes a piece, and where (R36). -/
def firstFit (k : Nat) (pc : Piece) : List (Nat × Slab) → Option (Nat × Slab × Nat × Nat × Bool)
  | [] => none
  | e :: t =>
    match e.2.fit k pc with
    | some f => some (e.1, e.2, f)
    | none => firstFit k pc t

/-! ### Making a placement -/

/-- The placement of a piece at a corner, with its placed extents (R22, R29, R32). -/
def newPlacement (j p : Nat) (pc : Piece) (x y : Nat) (rotated : Bool) : Placement :=
  { job := j, piece := p, x := x, y := y, rotated := rotated, w := if rotated then pc.yExt else pc.xExt,
    h := if rotated then pc.xExt else pc.yExt, state := .planned, marked := false, token := none }

/-- A slab with a placement appended; an AVAILABLE slab becomes ALLOCATED (R3, R32). -/
def Slab.append (sl : Slab) (q : Placement) : Slab :=
  { sl with placements := sl.placements ++ [q], state := if sl.state = .available then .allocated else sl.state }

/-- Create a placement and answer it (R31, R32, R34): slab id, index, corner, rotation, placed extents. -/
def State.createPlacement (id : Nat) (sl : Slab) (q : Placement) (s : State) : State × Reply :=
  accept (u32 id ++ u8 (sl.placements.length + 1) ++ u16 q.x ++ u16 q.y ++ mark q.rotated ++ u16 q.w ++ u16 q.h)
    ((s.modSlab id (fun sl => sl.append q)).modPiece q.job q.piece (fun pc => { pc with state := .planned }))

/-- The index, counted from 1, of the placement of a piece in a list. -/
def placementIndex (j p : Nat) (ps : List Placement) : Nat := ps.findIdx (fun q => q.job == j && q.piece == p) + 1

end Sys2Proof.Machine
end

