-- ==== Sys2Proof/Machine/Grants.lean ====
section
/-!
DEFINITION. The two ends of a grant, each up to the point where the loop state decides what follows (R138 steps 1 to 5, R141 steps 1 to 5), and the
answer to a grant request (R137).
-/
namespace Sys2Proof.Machine

/-- Make a grant for a station: the grant, the valve, the pump, the accrual, the FLOW SET, in that order (R138). -/
def State.makeGrant (n f : Nat) (s : State) : State :=
  let s := State.refreshPoint (n - 1) { s with wlc := { s.wlc with grants := s.wlc.grants.put n { flow := f, rate := f } } }
  let s := s.refreshPoint 8
  let s := { s with cst := s.cst.put n { step := ((s.head? n).map (fun h : Step => h.number)).getD 0, rate := f, start := s.clk.running, total := 0 } }
  (s.handFrame (.flowSet n f)).modHead n (fun h => { h with grantHeld := true })

/-- Release a station's grant: the grant, the valve, the accrual and its water, the unsent FLOW SET, the pump, in that order (R141). -/
def State.dropGrant (n : Nat) (s : State) : State :=
  let s := State.refreshPoint (n - 1) { s with wlc := { s.wlc with grants := s.wlc.grants.del n } }
  let s := (s.closeAccrual n).modHead n (fun h => { h with grantHeld := false })
  let s := (s.dropFrames (PartFrame.isFlowTo n)).clearFlowOwed n
  s.refreshPoint 8

/-- Whether the loop, with its marks and the flows held, has room to grant a flow (R137, R139). -/
def Wlc.hasRoom (w : Wlc) (f : Nat) : Bool :=
  decide (w.state = .running ∧ w.settings.supply = true ∧ w.throttled = false ∧ w.sumpHigh = false ∧ w.flowSum + f ≤ w.settings.pump)

/-- Answer of the water loop to a grant request (R100). -/
inductive GrantAnswer where
  | granted
  | waiting
  | refused (why : HoldReason)
  deriving DecidableEq, Repr

/-- The loop states in which a grant request is refused with LOOP_NOT_READY (R137). -/
def LoopState.refusesWater : LoopState → Bool
  | .running => false
  | .purgeWait => false
  | .purging => false
  | _ => true

/-- The answer to a grant request for a flow that is already at most Q (R137). -/
def State.grantAnswer (s : State) (n f : Nat) : GrantAnswer :=
  if s.wlc.state.refusesWater ∨ s.wlc.deferred ≠ .none then .refused .loopNotReady
  else if !s.inFunction (n - 1) then .refused .noValve
  else if s.wlc.waitList = [] ∧ s.wlc.hasRoom f then .granted
  else .waiting

/-- A request joins the tail of the wait list (R137). -/
def State.joinWaitList (n f : Nat) (s : State) : State :=
  { s with wlc := { s.wlc with waitList := s.wlc.waitList ++ [{ slot := n, flow := f }] } }

end Sys2Proof.Machine
end

