-- ==== Sys2Proof/Machine/Examine.lean ====
section
/-!
DEFINITION. The dispatcher's view of a head step: its offer (R101), the retirement of a step that is charged nothing (R104), and the examination of a
station's head on an occasion (R97 to R100).
-/
namespace Sys2Proof.Machine

/-! ### Offering a step -/

/-- The tool length of a step (R88). -/
def State.toolLength (s : State) (h : Step) : Nat :=
  match h.kind with
  | .cut j p =>
    match s.placement? j p with
    | some (_, q) => 2 * (q.w + q.h)
    | none => 0
  | .trim len => len
  | .probe .. => 0

/-- The STEP OFFER frame of a step with its token (R101, R187). -/
def State.offerFrame (s : State) (n tok : Nat) (h : Step) : PartFrame :=
  match h.kind with
  | .cut j p =>
    match s.placement? j p with
    | some (_, q) => .offer n tok h.kind.code q.x q.y q.w q.h
    | none => .offer n tok h.kind.code 0 0 0 0
  | .trim len => .offer n tok h.kind.code len 0 0 0
  | .probe lo hi _ _ _ => .offer n tok h.kind.code lo hi 0 0

/-- Write the step token of a CUT step's placement; no other step has one (R25). -/
def State.setToken (h : Step) (tok : Option Nat) (s : State) : State :=
  match h.kind with
  | .cut j p => s.modPlacement j p (fun q => { q with token := tok })
  | _ => s

/-- The token that follows a token (R90). -/
def nextTokenAfter (tok : Nat) : Nat := if tok = 255 then 1 else tok + 1

/-- Offer the head step of a station: it takes the next token, becomes OFFERED, and its frame is handed to the line (R90, R101). -/
def State.offer (n : Nat) (s : State) : State :=
  match s.station? n with
  | none => s
  | some st =>
    match st.queue with
    | [] => s
    | h :: _ =>
      let tok := st.nextToken
      let s := s.modStation n (fun st => { st with nextToken := nextTokenAfter tok, reason := .none })
      let s := s.modHead n (fun h => { h with state := .offered, token := some tok, lastToken := tok, stopPending := false })
      (s.setToken h (some tok)).handFrame (s.offerFrame n tok h)

/-! ### Reports of an ended step -/

/-- The STEP OUTCOME report of a step (R104, R185, R186). -/
def State.outcomeReport (s : State) (n : Nat) (h : Step) (o : StepOutcome) (d : Option Disposition) (ch : Charge) (thickness : Nat) : Report :=
  let jp : Nat × Nat := match h.kind with | .cut j p => (j, p) | _ => (0, 0)
  let ab : Nat × Nat := match h.kind with | .probe _ _ a b _ => (a, b) | _ => (0, 0)
  let probe := h.kind.code == 2
  .stepOutcome
    { slot := n, number := h.number, kind := h.kind.code, token := h.lastToken, outcome := o, disposition := d, job := jp.1, piece := jp.2,
      slabId := ((s.station? n).bind (·.loaded)).getD 0, seconds := ch.seconds, water := ch.water, toolLength := ch.toolLength,
      rateSet := ch.rateSet, machinePart := ch.machine.1, waterPart := ch.waterPart.1, toolPart := ch.tool.1,
      machineRest := ch.machine.2, waterRest := ch.waterPart.2, toolRest := ch.tool.2,
      machineOver := ch.machineOver, waterOver := ch.waterOver, toolOver := ch.toolOver,
      thickness := if probe then thickness else 0,
      valueA := probe && s.flag ab.1, mirroredA := probe && s.mirrored ab.1,
      valueB := probe && s.flag ab.2, mirroredB := probe && s.mirrored ab.2 }

/-- Take the step with a number out of a queue. -/
def eraseStep (k : Nat) : List Step → List Step
  | [] => []
  | h :: t => if h.number = k then t else h :: eraseStep k t

/-- A step leaves its queue; the head's leaving clears the head hold reason (R97, R104). -/
def State.leaveQueue (n k : Nat) (s : State) : State :=
  s.modStation n (fun st =>
    { st with queue := eraseStep k st.queue, reason := if st.queue.head?.map (·.number) = some k then .none else st.reason })

/-- Return the placement of a CUT step, and its piece, to PLANNED without a token (R24, R104). -/
def State.unissue (h : Step) (s : State) : State :=
  match h.kind with
  | .cut j p => (s.setToken h none).movePlacement j p .planned
  | _ => s

/-- A skipped STRICT probe sets both its targets false (R98). -/
def State.strictSkip (h : Step) (o : StepOutcome) (s : State) : State :=
  match h.kind with
  | .probe _ _ a b .strict => if o = .skipped then (s.writeFlag a false).writeFlag b false else s
  | _ => s

/-- A step that holds no grant retires SKIPPED or CANCELLED, at no charge (R104). -/
def State.retireUncharged (n : Nat) (h : Step) (o : StepOutcome) (s : State) : State :=
  let s := (s.unissue h).strictSkip h o
  (s.report (s.outcomeReport n h o none (Charge.nothing h.water) 0)).leaveQueue n h.number

/-! ### Examination -/

/-- What the tests of R98 and R99 say of a head step. -/
inductive HeadTest where
  | skip
  | jobHeld
  | toolLow
  | pass
  deriving DecidableEq, Repr

/-- The gate, the job hold and the tool life, in that order (R98, R99). -/
def State.headTest (s : State) (st : Station) (h : Step) : HeadTest :=
  if !s.gatePasses h.gate then .skip
  else
    match h.kind with
    | .cut j _ =>
      if (s.job? j).map (·.state) = some .held then .jobHeld
      else if st.toolLife < s.toolLength h then .toolLow else .pass
    | .trim len => if st.toolLife < len then .toolLow else .pass
    | .probe .. => .pass

/-- The head stops at tool life: the tool-low mark is set, with a STATION STATE report when it was clear (R96, R99). -/
def State.stopToolLow (n : Nat) (st : Station) (s : State) : State :=
  let s := s.modStation n (fun st => { st with reason := .toolLow, toolLow := true })
  if st.toolLow then s else s.reportStation n

/-- A head that passed asks for water, or for a PROBE goes to the offer directly (R100). -/
def State.seekWater (n : Nat) (st : Station) (h : Step) (s : State) : State :=
  match h.kind with
  | .probe .. => s.offer n
  | _ =>
    let f := min st.flow s.wlc.settings.pump
    match s.grantAnswer n f with
    | .granted => (s.makeGrant n f).offer n
    | .waiting => ((s.joinWaitList n f).modHead n (fun h => { h with state := .waitingWater })).setReason n .waterWait
    | .refused why => s.setReason n why

/-- Whether a station's standing lets its head be examined (R97). -/
def Station.examinable (st : Station) : Bool := st.condition == .ready && !st.hold && st.loaded.isSome

/-- The reason written for a QUEUED head whose station is not examinable (R97). Where the host hold mark is set on a station that is also OFFLINE,
UNREACHABLE or in FAULT, R97 has more than one reason apply. DESIGN CHOICE: STATION_HOLD goes first, as its text names it; log entry 43. -/
def Station.idleReason (st : Station) : HoldReason :=
  if st.hold then .stationHold
  else if st.condition = .offline ∨ st.condition = .unreachable then .line
  else .none

/-- The examination of a station's head on an occasion, and of each next head while the one before it is skipped; `fuel` bounds the steps looked at
(R97, R98). -/
def State.examineHead : Nat → Nat → State → State
  | 0, _, s => s
  | fuel + 1, n, s =>
    match s.station? n with
    | none => s
    | some st =>
      match st.queue with
      | [] => s.setReason n .none
      | h :: _ =>
        if h.state ≠ .queued then s
        else if !st.examinable then s.setReason n st.idleReason
        else
          match s.headTest st h with
          | .skip => State.examineHead fuel n (s.retireUncharged n h .skipped)
          | .jobHeld => s.setReason n .jobHeld
          | .toolLow => s.stopToolLow n st
          | .pass => s.seekWater n st h

/-- An occasion for examining a station's head (R97). -/
def State.occasion (n : Nat) (s : State) : State :=
  s.examineHead (((s.station? n).map (·.queue.length)).getD 0 + 1) n

/-- An occasion at every station, in ascending slot order (R97). -/
def State.occasionAll (s : State) : State := s.dsp.stations.keys.foldl (fun s n => s.occasion n) s

end Sys2Proof.Machine
end

