-- ==== Sys2Proof/Machine/Water.lean ====
section
/-!
DEFINITION. The water loop's own moves: serving the wait list (R139), changing its state (R133), the due mark and the purge (R144, R145), handing over
(R149), releasing a grant with what follows from it (R141), the samples (R131, R132, R152) and the wait list's refusals (R140).
-/
namespace Sys2Proof.Machine

/-! ### The wait list -/

/-- A WAITING_WATER head returns to QUEUED with a reason (R100, R102). -/
def State.returnHead (n : Nat) (why : HoldReason) (s : State) : State :=
  match s.head? n with
  | none => s
  | some h =>
    if h.state = .waitingWater then (s.modHead n (fun h => { h with state := .queued })).setReason n why else s

/-- A grant from the wait list reaches the dispatcher: the step goes to the offer if it is still the WAITING_WATER head of a READY station without a
host hold; otherwise the grant is released at once and the step returns to QUEUED (R100, R102). -/
def State.grantArrives (n : Nat) (s : State) : State :=
  match s.station? n with
  | none => s.dropGrant n
  | some st =>
    if st.condition = .ready ∧ st.hold = false ∧ (st.queue.head?.map (·.state)) = some .waitingWater then s.offer n
    else (s.dropGrant n).returnHead n st.idleReason

/-- Serve the wait list: grant its head while it fits, and go on with the next; `fuel` bounds the entries looked at (R139). -/
def State.serveLoop : Nat → State → State
  | 0, s => s
  | fuel + 1, s =>
    match s.wlc.waitList with
    | [] => s
    | e :: t =>
      if s.wlc.hasRoom e.flow then
        State.serveLoop fuel
          ((State.makeGrant e.slot e.flow { s with wlc := { s.wlc with waitList := t } }).grantArrives e.slot)
      else s

/-- Serve the wait list (R139). -/
def State.serve (s : State) : State := s.serveLoop s.wlc.waitList.length

/-- Take a station's entry off the wait list; when it was the head, the list is served (R139, R140). -/
def State.removeEntry (n : Nat) (s : State) : State :=
  let wasHead := (s.wlc.waitList.head?.map (·.slot)) == some n
  let s := { s with wlc := { s.wlc with waitList := s.wlc.waitList.filter (fun e => e.slot != n) } }
  if wasHead then s.serve else s

/-- The dispatcher withdraws the entry of a WAITING_WATER head, which returns to QUEUED with a reason (R102). -/
def State.withdrawHead (n : Nat) (why : HoldReason) (s : State) : State :=
  if (s.head? n).map (·.state) = some .waitingWater then (s.returnHead n why).removeEntry n else s

/-- Refuse the whole wait list back with LOOP_NOT_READY, from head to tail (R140). -/
def State.refuseWaiting (s : State) : State :=
  let s' := s.wlc.waitList.foldl (fun s e => s.returnHead e.slot .loopNotReady) s
  { s' with wlc := { s'.wlc with waitList := [] } }

/-! ### Loop state, due mark and purge -/

/-- Change the loop state: the fields given change with it, the points take their new levels, and then a LOOP STATE report is placed (R133). -/
def State.changeLoop (new : LoopState) (f : Wlc → Wlc) (s : State) : State :=
  let old := s.wlc.state
  let s := State.refreshOutputs { s with wlc := { f s.wlc with state := new } }
  s.report (.loopState
    { new := new, old := old, deferred := s.wlc.deferred, handover := s.wlc.handover, minutes := s.wlc.minutes, due := s.wlc.due,
      throttled := s.wlc.throttled, grants := s.wlc.grants.length })

/-- A purge starts: its end time is the running counter plus the duration in force (R145). -/
def Wlc.beginPurge (now : Nat) (w : Wlc) : Wlc := { w with purgeEnd := some (now + w.settings.duration * 60) }

/-- The purge interval in running minutes (R128). -/
def LoopSettings.interval (s : LoopSettings) : Nat := Config.purgeIntervals[s.intervalIndex]?.getD 240

/-- The due test: it sets the due mark when purge enabled is yes and the count is at or above the interval, in every state but OFF (R144). -/
def State.dueTest (s : State) : State :=
  if s.wlc.state ≠ .off ∧ s.wlc.settings.purgeEnabled = true ∧ s.wlc.settings.interval ≤ s.wlc.minutes then
    { s with wlc := { s.wlc with due := true } }
  else s

/-- What a set due mark does in the loop state (R144). -/
def State.dueAct (s : State) : State :=
  if s.wlc.due = false then s
  else
    match s.wlc.state with
    | .running =>
      if s.wlc.grants = [] then s.changeLoop .purging (Wlc.beginPurge s.clk.running) else s.changeLoop .purgeWait id
    | .manual =>
      if s.wlc.handover = some .keepPurge ∧ s.wlc.purgeEnd = none then
        State.refreshOutputs { s with wlc := s.wlc.beginPurge s.clk.running }
      else s
    | _ => s

/-- The due mark acts, and where it changed the loop state every station's head is examined (R133, R144). -/
def State.dueEvent (s : State) : State :=
  let t := s.dueAct
  if t.wlc.state = s.wlc.state then t else t.occasionAll

/-- The loop enters RUNNING: the due test and a set due mark act at once, the wait list is served, and every station's head is examined (R136, R139,
R148, R151). Log entry 8. -/
def State.enterRunning (f : Wlc → Wlc) (s : State) : State :=
  (((s.changeLoop .running f).dueTest).dueAct).serve.occasionAll

/-- The loop enters MANUAL in the recorded handover mode; under FULL makeup stops being active, under KEEP_PURGE a set due mark starts a purge (R149,
R150, R152). -/
def State.enterManual (s : State) : State :=
  (s.changeLoop .manual (fun w =>
    { w with deferred := .none, makeupOpen := if w.handover = some .full then false else w.makeupOpen })).dueAct

/-- HANDOVER_WAIT with no grant left: a purge first where the due mark is set, otherwise MANUAL (R149). -/
def State.handoverDrained (s : State) : State :=
  if s.wlc.due then s.changeLoop .purging (fun w => { w.beginPurge s.clk.running with deferred := .handover })
  else s.enterManual

/-- What follows a release by loop state (R141). A change of the loop state is an occasion at every station (R97). DESIGN CHOICE: where the release belongs to
a retirement, the examination comes within step 1 of R104, ahead of the charges and the STEP OUTCOME report of that step; log entry 45. -/
def State.afterRelease (s : State) : State :=
  match s.wlc.state with
  | .running => s.serve
  | .purgeWait => if s.wlc.grants = [] then (s.changeLoop .purging (Wlc.beginPurge s.clk.running)).occasionAll else s
  | .standbyWait => if s.wlc.grants = [] then (s.changeLoop .standbyPurge (Wlc.beginPurge s.clk.running)).occasionAll else s
  | .handoverWait => if s.wlc.grants = [] then s.handoverDrained.occasionAll else s
  | _ => s

/-- The dispatcher releases the grant of a station's head, if it holds one (R141). -/
def State.release (n : Nat) (s : State) : State :=
  if (s.head? n).map (·.grantHeld) = some true then (s.dropGrant n).afterRelease else s

/-- A purge has completed: the count, its seconds part, the due mark, the late-reported mark, the wait and the purge running mark clear (R145, R146). -/
def Wlc.purged (w : Wlc) : Wlc :=
  { w with minutes := 0, seconds := 0, due := false, lateReported := false, lateWait := 0, purgeEnd := none }

/-- What the loop does at the end of a purge (R145). -/
def State.finishPurge (s : State) : State :=
  match s.wlc.state, s.wlc.deferred with
  | .purging, .standby => (s.changeLoop .standby (fun w => { w.purged with deferred := .none })).occasionAll
  | .purging, .handover => (State.enterManual { s with wlc := s.wlc.purged }).occasionAll
  | .purging, _ => s.enterRunning (fun w => { w.purged with deferred := .none })
  | .standbyPurge, .resume => s.enterRunning (fun w => { w.purged with deferred := .none })
  | .standbyPurge, _ => (s.changeLoop .standby (fun w => { w.purged with deferred := .none })).occasionAll
  | .wakePurge, _ => s.enterRunning (fun w => { w.purged with deferred := .none })
  | _, _ => State.refreshOutputs { s with wlc := s.wlc.purged }

/-- Priming ends and the loop enters RUNNING (R136). -/
def State.endPriming (s : State) : State := s.enterRunning (fun w => { w with priming := none })

/-! ### Samples -/

/-- The clean volume of a reading (R131). -/
def cleanVolume (counts capacity : Nat) : Nat := counts * capacity / 4095

/-- The throttled rate of a flow (R66, R132). -/
def throttledRate (f : Nat) : Nat := max 1 (f / 2)

/-- The restore threshold (R132). -/
def LoopSettings.threshold (s : LoopSettings) : Nat := min (s.reserve + s.margin) s.capacity

/-- Every grant held takes a new rate: its accrual takes a boundary and a FLOW SET is handed to the line, in ascending slot order (R132). -/
def State.setRates (rate : Nat → Nat) (s : State) : State :=
  s.wlc.grants.foldl (fun s e =>
    State.handFrame (.flowSet e.1 (rate e.2.flow))
      (State.accrualBoundary e.1 (rate e.2.flow)
        { s with wlc := { s.wlc with grants := s.wlc.grants.modify e.1 (fun g => { g with rate := rate g.flow }) } })) s

/-- The WATER LEVEL report (R132). -/
def State.reportLevel (s : State) : State :=
  s.report (.waterLevel
    { volume := s.wlc.volume, counts := s.wlc.counts, reserve := s.wlc.settings.reserve, threshold := s.wlc.settings.threshold,
      throttled := s.wlc.throttled, grants := s.wlc.grants.length })

/-- The throttle decision of a sample (R132). -/
def State.throttleDecision (s : State) : State :=
  if s.wlc.state = .off then s
  else if s.wlc.throttled = false ∧ s.wlc.volume < s.wlc.settings.reserve then
    (State.setRates throttledRate { s with wlc := { s.wlc with throttled := true } }).reportLevel
  else if s.wlc.throttled = true ∧ s.wlc.settings.threshold ≤ s.wlc.volume then
    (State.setRates id { s with wlc := { s.wlc with throttled := false } }).reportLevel.serve
  else s

/-- Whether makeup is active (R152). -/
def State.makeupActive (s : State) : Bool :=
  decide (s.wlc.state ≠ .off ∧ s.wlc.state ≠ .stopped ∧ ¬(s.wlc.state = .manual ∧ s.wlc.handover = some .full)) && s.inFunction 10

/-- The makeup decision of a sample (R152). -/
def State.makeupDecision (s : State) : State :=
  if !s.makeupActive then s
  else if s.wlc.makeupOpen = false ∧ s.wlc.volume < s.wlc.settings.low then
    State.refreshPoint 10 { s with wlc := { s.wlc with makeupOpen := true } }
  else if s.wlc.makeupOpen = true ∧ s.wlc.settings.high ≤ s.wlc.volume then
    State.refreshPoint 10 { s with wlc := { s.wlc with makeupOpen := false } }
  else s

end Sys2Proof.Machine
end

