-- ==== Sys2Proof/Machine/Steps.lean ====
section
/-!
DEFINITION. How a step that went out ends (R104 to R109), what a station's report does (R102, R103, R105 to R109), a station that becomes
UNREACHABLE (R108, R116, R120), and the plant stop with the dispatcher's part in it (R110, R154).
-/
namespace Sys2Proof.Machine

/-! ### Retirement of a step that is charged (R104) -/

/-- How a step that went out ends: its outcome, its disposition, the machine seconds and the measured thickness of the report that ends it. -/
structure Ending where
  outcome : StepOutcome
  disposition : Option Disposition
  seconds : Nat
  thickness : Nat
  deriving DecidableEq, Repr

/-- DONE on a report (R105). -/
def LineReport.done (r : LineReport) : Ending :=
  { outcome := .done, disposition := none, seconds := min r.elapsed Config.max16, thickness := r.thickness }
/-- FAULTED on a report (R106, R109). -/
def LineReport.faulted (r : LineReport) : Ending :=
  { outcome := .faulted, disposition := some r.disposition, seconds := min r.elapsed Config.max16, thickness := r.thickness }
/-- ABORTED on a report, with its disposition and seconds (R106, R107, R109). -/
def LineReport.aborted (r : LineReport) : Ending :=
  { outcome := .aborted, disposition := some r.disposition, seconds := min r.elapsed Config.max16, thickness := r.thickness }
/-- ABORTED with disposition BROKEN and no machine seconds: the station has lost the step, or UNLOAD resolves it (R87, R106, R109). These rules give the seconds
as 0 and do not speak of the thickness that a PROBE's STEP OUTCOME then carries. DESIGN CHOICE: 0, and not the report's; log entry 54. -/
def lostEnding : Ending := { outcome := .aborted, disposition := some .broken, seconds := 0, thickness := 0 }

/-- Where the CUT placement of an ended step goes (R24). -/
def Ending.placement (e : Ending) : PlacementState :=
  if e.outcome = .done then .cut else if e.disposition = some .broken then .broken else .planned

/-- The tool length a step is charged: nothing unless it ended DONE (R68). -/
def State.chargedLength (s : State) (h : Step) (e : Ending) : Nat := if e.outcome = .done then s.toolLength h else 0

/-- Charge an ended step, a CUT to its job, a TRIM or PROBE to the slab on the station (R64, R71, R72). Answers the figures and whether the job
became HELD. -/
def State.chargeStep (n : Nat) (st : Station) (h : Step) (e : Ending) (s : State) : State × Charge × Bool :=
  let len := s.chargedLength h e
  match h.kind with
  | .cut j _ => s.chargeJob j st.cls e.seconds h.water len
  | _ =>
    let r := s.chargeSlab (((s.station? n).bind (·.loaded)).getD 0) st.cls e.seconds h.water len
    (r.1, r.2, false)

/-- A PROBE that ended DONE sets its targets (R105). -/
def State.setTargets (h : Step) (thickness : Nat) (s : State) : State :=
  match h.kind with
  | .probe lo hi a b _ =>
    let inside := decide (lo ≤ thickness ∧ thickness ≤ hi)
    (s.writeFlag a inside).writeFlag b (!inside)
  | _ => s

/-- The placement and piece of an ended CUT move and lose the token; at DONE the tool life falls and a PROBE sets its targets (R24, R96, R104,
R105). -/
def State.markEnded (n : Nat) (h : Step) (e : Ending) (len : Nat) (s : State) : State :=
  let s := match h.kind with
    | .cut j p => (s.setToken h none).movePlacement j p e.placement
    | _ => s
  if e.outcome = .done then (s.modStation n (fun st => { st with toolLife := st.toolLife - len })).setTargets h e.thickness else s

/-- Retire the head step of a station that went out, up to its leaving the queue (R104, steps 1 to 5). Answers whether a job became HELD. -/
def State.retireOut (n : Nat) (e : Ending) (s : State) : State × Bool :=
  let s := s.release n
  match s.station? n with
  | none => (s, false)
  | some st =>
    match st.queue with
    | [] => (s, false)
    | h :: _ =>
      let c := s.chargeStep n st h e
      let t := c.1.markEnded n h e c.2.1.toolLength
      let t := t.report (t.outcomeReport n h e.outcome e.disposition c.2.1 e.thickness)
      ((t.leaveQueue n h.number).clearHaltOwed n, c.2.2)

/-- Retire the head step of a station on its report: the condition follows, the next head is examined, and a job held by the charge is an occasion
at every station (R97, R104). -/
def State.retire (n : Nat) (e : Ending) (c : Condition) (s : State) : State :=
  let r := s.retireOut n e
  let t := (r.1.setCondition n c).occasion n
  if r.2 then t.occasionAll else t

/-! ### Offers that come back, and stations lost -/

/-- An offer ends refused or failed: the grant is released, the token goes, the step returns to QUEUED with reason LINE and is not examined
(R101). -/
def State.offerReturned (n : Nat) (s : State) : State :=
  match s.head? n with
  | none => s
  | some h =>
    if h.state = .offered then
      let s := (s.release n).setToken h none
      (s.modHead n (fun h => { h with state := .queued, token := none, stopPending := false })).setReason n .line
    else s

/-- Hand a HALT with a token to the line and put the head in HALTING (R93, R109, R110). -/
def State.haltHead (n : Nat) (s : State) : State :=
  match s.head? n with
  | none => s
  | some h =>
    State.handFrame (.halt n (h.token.getD 0) false) (s.modHead n (fun h => { h with state := .halting, stopPending := false }))

/-- An IN_PROGRESS or HALTING head of a lost station: its grant is released and it becomes IN_DOUBT, keeping its token (R108). -/
def State.doubtHead (n : Nat) (s : State) : State :=
  match s.head? n with
  | none => s
  | some h =>
    if h.state = .inProgress ∨ h.state = .halting then
      (s.release n).modHead n (fun h => { h with state := .inDoubt })
    else s

/-- A station becomes UNREACHABLE (R102, R108, R116, R120). -/
def State.becomeUnreachable (n : Nat) (s : State) : State :=
  let s := (s.setCondition n .unreachable).doubtHead n
  let s := (s.dropFrames (fun f => f.isFlowTo n || f.isHaltTo n)).clearHaltOwed n
  let s := s.clearFlowOwed n
  let s := if s.slc.sendList.any (·.isOfferTo n) then (s.dropFrames (PartFrame.isOfferTo n)).offerReturned n else s
  (s.withdrawHead n .line).occasion n

/-- A line failure counts for a station; the third makes it UNREACHABLE (R120). -/
def State.countFailure (n : Nat) (s : State) : State :=
  match s.station? n with
  | none => s
  | some st =>
    if 3 ≤ st.failures then s
    else
      let s := s.modStation n (fun st => { st with failures := st.failures + 1 })
      if st.failures + 1 = 3 ∧ st.condition ≠ .unreachable then s.becomeUnreachable n else s

/-- An accepted frame to or from a station sets its count to 0 (R120). -/
def State.clearFailures (n : Nat) (s : State) : State := s.modStation n (fun st => { st with failures := 0 })

/-! ### A station's report (R102 to R109) -/

/-- A report other than WORKING clears the owed mark of a HALT that names no step of the part (R116). -/
def State.clearForeignHalt (n : Nat) (s : State) : State :=
  if (s.slc.haltOwed.get? n).map (·.foreign) = some true then s.clearHaltOwed n else s

/-- The condition changes and the head is examined (R81, R97). -/
def State.changeCondition (n : Nat) (c : Condition) (s : State) : State := (s.setCondition n c).occasion n

/-- A report while no step is out acts on the condition alone (R103). A station newly heard that is WORKING is sent a HALT, and its change of condition is
an occasion; R103 does not order the two. DESIGN CHOICE: the HALT is handed over before the head is examined, and so stands ahead of a STEP OFFER of the
same event; log entry 47. -/
def State.reportIdle (n tok : Nat) (r : LineReport) (st : Station) (s : State) : State :=
  match st.condition with
  | .offline | .unreachable =>
    match r.condition with
    | .fault => s.changeCondition n .fault
    | .working => ((s.setCondition n .ready).handFrame (.halt n tok true)).occasion n
    | _ => s.changeCondition n .ready
  | .ready =>
    match r.condition with
    | .fault => ((s.setCondition n .fault).withdrawHead n .none).occasion n
    | _ => s
  | _ => s

/-- A report while the head is OFFERED: only FAULT acts, and ends the offer as a refusal (R103). -/
def State.reportOffered (n : Nat) (r : LineReport) (s : State) : State :=
  if r.condition = .fault then
    ((s.dropFrames (PartFrame.isOfferTo n)).offerReturned n).changeCondition n .fault
  else s

/-- Whether a reported token names the step, or no step (R106, R107, R109). -/
def Step.ownOrNone (h : Step) (tok : Nat) : Bool := tok == 0 || h.token == some tok

/-- A report while the head is IN_PROGRESS (R105, R106). -/
def State.reportInProgress (n tok : Nat) (r : LineReport) (h : Step) (s : State) : State :=
  match r.condition with
  | .done => if h.token = some tok then s.retire n r.done .ready else s
  | .fault => if h.ownOrNone tok then s.retire n r.faulted .fault else s
  | .ready =>
    if tok = 0 then s.retire n lostEnding .ready
    else if h.token = some tok then s.retire n r.aborted .ready else s
  | .working => s

/-- A report while the head is HALTING (R107). -/
def State.reportHalting (n tok : Nat) (r : LineReport) (h : Step) (s : State) : State :=
  match r.condition with
  | .done => if h.token = some tok then s.retire n r.done .ready else s
  | .ready => if h.ownOrNone tok then s.retire n r.aborted .ready else s
  | .fault => if h.ownOrNone tok then s.retire n r.aborted .fault else s
  | .working => s

/-- The first report while the head is IN_DOUBT (R109). READY with a token of another step has no row of its own; DEDUCED, the last row is taken
for it (log entry 10). -/
def State.reportInDoubt (n tok : Nat) (r : LineReport) (h : Step) (s : State) : State :=
  match r.condition with
  | .done => if h.token = some tok then s.retire n r.done .ready else s.retire n lostEnding .ready
  | .fault => if h.ownOrNone tok then s.retire n r.faulted .fault else s.retire n lostEnding .fault
  | .working => if h.token = some tok then (s.haltHead n).changeCondition n .working else s.retire n lostEnding .ready
  | .ready => if h.token = some tok then s.retire n r.aborted .ready else s.retire n lostEnding .ready

/-- The dispatcher takes a station's accepted STATE or ALERT (R102 to R109). -/
def State.stationReport (n tok : Nat) (r : LineReport) (s : State) : State :=
  let s := if r.condition = .working then s else s.clearForeignHalt n
  match s.station? n with
  | none => s
  | some st =>
    match st.queue with
    | [] => s.reportIdle n tok r st
    | h :: _ =>
      match h.state with
      | .queued | .waitingWater => s.reportIdle n tok r st
      | .offered => s.reportOffered n r
      | .inProgress => s.reportInProgress n tok r h
      | .halting => s.reportHalting n tok r h
      | .inDoubt => s.reportInDoubt n tok r h

/-! ### Plant stop (R110, R154) -/

/-- The dispatcher's part of a plant stop at one station (R110). An OFFERED head is marked, so that a HALT follows an accepted offer. -/
def State.stopHead (n : Nat) (s : State) : State :=
  match s.head? n with
  | none => s
  | some h =>
    if h.state = .inProgress then s.haltHead n
    else if h.state = .offered then s.modHead n (fun h => { h with stopPending := true })
    else s

/-- The eight steps of a plant stop, whatever the loop state (R154). -/
def State.stopPlant (s : State) : State :=
  let left := s.wlc.state
  let revoked := s.wlc.grants.length
  let abandoned := s.wlc.purgeEnd.isSome
  let s := { s with wlc := { s.wlc with state := .stopped, deferred := .none, handover := none } }
  let s := (s.wlc.grants.keys.foldl (fun s n => s.dropGrant n) s).refuseWaiting
  let s := State.refreshOutputs { s with wlc := { s.wlc with purgeEnd := none, priming := none, makeupOpen := false } }
  let s := s.report (.plantStop left revoked abandoned s.wlc.minutes)
  let s := s.dsp.stations.keys.foldl (fun s n => s.stopHead n) s
  (s.report (.loopState
    { new := .stopped, old := left, deferred := .none, handover := none, minutes := s.wlc.minutes, due := s.wlc.due,
      throttled := s.wlc.throttled, grants := s.wlc.grants.length })).occasionAll

/-- B7 becomes active while it counts for the loop: the plant stops, in any state but OFF and STOPPED (R154). -/
def State.plantStop (s : State) : State :=
  if s.wlc.state = .off ∨ s.wlc.state = .stopped then s else s.stopPlant

end Sys2Proof.Machine
end

