-- ==== Sys2Proof/Machine/Line.lean ====
section
/-!
DEFINITION. The station line: choosing and opening a frame, arbitration, the ends of the part's own frames, the exchanges of a poll round, and the
frames that stations open (R112 to R125).
-/
namespace Sys2Proof.Machine

/-! ### The next frame (R117) -/

/-- The frame due at the current turn of the round: the owed HALT, then the owed FLOW SET, then the POLL; each owed frame once in a turn (R117). An owed
FLOW SET carries the grant's rate as it stands when the frame is opened, also where the same frame was opened in this turn and lost arbitration: R116
says the flow as it then stands, R123 sent again unchanged. An owed frame whose station's turn is still to come goes out in the round under way: R116
says the next poll round. DESIGN CHOICE, both; log entry 36. -/
def State.turnFrame (s : State) : Option PartFrame :=
  match s.slc.roundLeft with
  | [] => none
  | n :: _ =>
    match s.slc.haltOwed.get? n, s.slc.turnHalt with
    | some h, false => some (.halt n h.token h.foreign)
    | _, _ =>
      match s.wlc.grants.get? n with
      | some g => if s.slc.flowOwed.contains n ∧ s.slc.turnFlow = false then some (.flowSet n g.rate) else some (.poll n)
      | none => some (.poll n)

/-- The next frame of the part, and whether it comes from the send list; none while an answer window is open or where nothing is to be sent (R117). -/
def State.nextFrame (s : State) : Option OwnFrame :=
  if s.slc.window.isSome then none
  else
    match s.slc.sendList with
    | f :: _ => some { frame := f, fromList := true }
    | [] => s.turnFrame.map (fun f => { frame := f, fromList := false })

/-- Record in the turn's marks that an owed frame of the turn has gone out, or has come back (R117, R123). -/
def Slc.markTurn (c : Slc) (f : PartFrame) (sent : Bool) : Slc :=
  match f with
  | .halt .. => { c with turnHalt := sent }
  | .flowSet .. => { c with turnFlow := sent }
  | _ => c

/-- A frame of the part's is opened: it leaves the send list, or its place in the turn (R116, R117). -/
def Slc.openFrame (c : Slc) (o : OwnFrame) : Slc :=
  let c := if o.fromList then { c with sendList := c.sendList.drop 1 } else c.markTurn o.frame true
  { c with line := .own, own := some o }

/-- A frame that lost arbitration goes back to the head of the send list (R123). Where a newer frame of its kind for its station has joined meanwhile,
that one stands at the head in its place, so that the list holds one of the kind (R116). A FLOW SET goes back also where its grant has been released
while it was on the line, which neither rule speaks of. DESIGN CHOICE, both; log entry 37. -/
def Slc.putBack (f : PartFrame) (c : Slc) : Slc :=
  { c with sendList := (c.sendList.find? f.sameKind).getD f :: c.sendList.filter (fun g => !f.sameKind g) }

/-- The part's frame loses arbitration: it goes back to the head of the send list, or stays due in its turn, and the line is OTHER (R123). -/
def Slc.loseFrame (c : Slc) (o : OwnFrame) : Slc :=
  let c := if o.fromList then c.putBack o.frame else c.markTurn o.frame false
  { c with line := .other, own := none }

/-- The line is seen IDLE: the stuck-line mark clears, and no frame of another party is on it (R112, R124, R125). -/
def Slc.seenIdle (c : Slc) : Slc := { c with line := .idle, stuck := false, clears := [], hearing := .hearing }

/-- The header of a frame of the part's: twice the station's address (R113). -/
def State.ownHeader (s : State) (f : PartFrame) : Nat :=
  2 * (((s.station? f.slot).map (fun st => st.address)).getD 0)

/-- Another party's frame, whose header is given if it sends one, has the line (R112, R114). -/
def State.hearOther (header : Option Byte) (s : State) : State :=
  { s with slc := { s.slc with line := .other, hearing := (header.map s.hearingOf).getD .hearing } }

/-- Arbitration of the part's frame on the line against another party's header: the numerically lower header wins, and where that is the other's the part
becomes its receiver (R123). -/
def State.arbitrate (rival : Byte) (s : State) : State :=
  match s.slc.own with
  | none => s
  | some o => if rival.toNat < s.ownHeader o.frame then State.hearOther (some rival) { s with slc := s.slc.loseFrame o } else s

/-- The line is idle and the part opens its next frame, if it has one; a rival opens at the same moment if `rival` is given (R112, R117, R123). -/
def State.openNext (rival : Option Byte) (s : State) : State :=
  match s.nextFrame, rival with
  | none, none => s
  | none, some r => s.hearOther (some r)
  | some o, none => { s with slc := s.slc.openFrame o }
  | some o, some r => State.arbitrate r { s with slc := s.slc.openFrame o }

/-! ### Exchanges and rounds (R118, R119) -/

/-- A poll round begins with every station defined, ascending; the owed new round is then the one begun (R118). -/
def State.beginRound (s : State) : State :=
  { s with slc := { s.slc with roundLeft := s.dsp.stations.keys, roundOwed := false } }

/-- When the round has no station left and a new round is owed, it begins at that moment (R118). -/
def State.nextRound (s : State) : State := if s.slc.roundLeft = [] ∧ s.slc.roundOwed = true then s.beginRound else s

/-- The exchange of a station ends: it leaves the round, its window closes, the exchange is handed to the dispatcher as its poll, and an owed round may
begin (R97, R118, R119). -/
def State.endExchange (n : Nat) (s : State) : State :=
  (State.occasion n { s with slc := { s.slc with
    roundLeft := s.slc.roundLeft.erase n, window := none, turnHalt := false, turnFlow := false } }).nextRound

/-! ### The ends of the part's frames (R115) -/

/-- The part's frame on the line, if it is in one. -/
def State.ownFrame? (s : State) : Option PartFrame :=
  match s.slc.own with
  | none => none
  | some o => some o.frame

/-- The part's frame is closed, and the line is IDLE (R112). -/
def State.closeOwn (s : State) : State := { s with slc := { s.slc.seenIdle with own := none } }

/-- The part stops driving its frame, and the line stays busy (R112, R114). -/
def State.cutOwn (s : State) : State := { s with slc := { s.slc with line := .other, own := none } }

/-- A POLL ends (R115, R119). -/
def State.pollEnded (n : Nat) (e : FrameEnd) (s : State) : State :=
  match e with
  | .accepted => { s with slc := { s.slc with window := some n } }
  | .refused => s.endExchange n
  | .failed => (s.countFailure n).endExchange n

/-- A STEP OFFER is accepted: the step is IN_PROGRESS and the station WORKING, and after a plant stop a HALT is sent at once (R101, R110). -/
def State.offerTaken (n : Nat) (s : State) : State :=
  match s.head? n with
  | none => s
  | some h =>
    if h.state = .offered then
      let s := (s.modHead n (fun h => { h with state := .inProgress })).setCondition n .working
      if h.stopPending then s.haltHead n else s
    else s

/-- A STEP OFFER ends (R101, R115). -/
def State.offerEnded (n : Nat) (e : FrameEnd) (s : State) : State :=
  match e with
  | .accepted => (s.clearFailures n).offerTaken n
  | .refused => s.offerReturned n
  | .failed => (s.offerReturned n).countFailure n

/-- Put a slot in an ascending list, once. -/
def insertSlot (n : Nat) : List Nat → List Nat
  | [] => [n]
  | m :: t => if n < m then n :: m :: t else if n = m then m :: t else m :: insertSlot n t

/-- A FLOW SET to a station is owed, as long as its grant is held (R115, R116). Log entry 13. -/
def State.oweFlow (n : Nat) (s : State) : State :=
  if s.wlc.grants.has n then { s with slc := { s.slc with flowOwed := insertSlot n s.slc.flowOwed } } else s

/-- A FLOW SET ends (R115). -/
def State.flowEnded (n : Nat) (e : FrameEnd) (s : State) : State :=
  match e with
  | .accepted => (s.clearFailures n).clearFlowOwed n
  | .refused => s.oweFlow n
  | .failed => (s.oweFlow n).countFailure n

/-- A HALT to a station is owed (R115, R116). -/
def State.oweHalt (n tok : Nat) (foreign : Bool) (s : State) : State :=
  { s with slc := { s.slc with haltOwed := s.slc.haltOwed.put n { token := tok, foreign := foreign } } }

/-- A HALT ends (R115). -/
def State.haltEnded (n tok : Nat) (foreign : Bool) (e : FrameEnd) (s : State) : State :=
  match e with
  | .accepted => (s.clearFailures n).clearHaltOwed n
  | .refused => s.oweHalt n tok foreign
  | .failed => (s.oweHalt n tok foreign).countFailure n

/-- A frame of the part's ends, by its kind (R115). -/
def State.ownEnded (f : PartFrame) (e : FrameEnd) (s : State) : State :=
  match f with
  | .poll n => s.pollEnded n e
  | .offer n .. => s.offerEnded n e
  | .flowSet n _ => s.flowEnded n e
  | .halt n tok foreign => s.haltEnded n tok foreign e

/-! ### Frames that stations open (R114, R119, R122) -/

/-- An accepted STATE or ALERT: the count falls to 0 and the dispatcher takes the body (R119, R120, R122). -/
def State.takeReport (n : Nat) (tok : Byte) (r : LineReport) (s : State) : State := (s.clearFailures n).stationReport n tok.toNat r

/-- A station's frame ends refused: in its own window the exchange of the polled station ends with no answer, and its count stands (R114, R119). -/
def State.frameRefused (n : Nat) (s : State) : State := if s.slc.window = some n then s.endExchange n else s

/-- A station's frame ends accepted: in the window of its station it is the answer, and at any other time it is taken by itself (R119, R122). -/
def State.frameAccepted (n : Nat) (tok : Byte) (r : LineReport) (s : State) : State :=
  if s.slc.window = some n then (s.takeReport n tok r).endExchange n else s.takeReport n tok r

/-- A station's frame fails: in the window of its station the exchange fails, and at any other time a failure is counted (R114, R119, R120). -/
def State.frameLost (n : Nat) (s : State) : State :=
  if s.slc.window = some n then (s.countFailure n).endExchange n else s.countFailure n

/-- Whether the part acknowledges the kind byte of a frame from station n: an ALERT at any time, a STATE while the answer window is open for that station,
no other kind (R114, R122). -/
def State.takesKind (n : Nat) (kind : Byte) (s : State) : Bool := kind == alertKind || (kind == stateKind && s.slc.window == some n)

/-- The outcome of the frame of station n whose header the part acknowledged: refused where it declined the kind or a byte of the body, accepted otherwise
(R114, R188). Log entry 30. -/
def State.frameJudged (n : Nat) (f : StationFrame) (s : State) : State :=
  match s.takesKind n f.kind, judgeBody f.body with
  | true, some r => s.frameAccepted n f.token r
  | _, _ => s.frameRefused n

/-- A station's frame is closed and leaves the line IDLE (R112). Its outcome is by how the part stood toward it: a header that it did not acknowledge is a
failure for the station that is now defined at the address, a frame it stopped acknowledging is refused, and one that has failed by time has had its
outcome (R114, R127). While the part is in a frame of its own no station's frame can close. -/
def State.frameClosed (f : StationFrame) (s : State) : State :=
  if s.slc.line = .own then s
  else
    let t := { s with slc := s.slc.seenIdle }
    match t.slotOfHeader f.header with
    | none => t
    | some n =>
      match s.slc.hearing with
      | .hearing => t.frameJudged n f
      | .unheard => t.frameLost n
      | .declined => t.frameRefused n
      | .failed => t

/-- The frame that a station opened fails by time, once (R114). -/
def State.stationFrameFailed (header : Option Byte) (s : State) : State :=
  match header with
  | none => s
  | some b =>
    let t := { s with slc := { s.slc with hearing := .failed } }
    match s.slotOfHeader b with
    | none => t
    | some n => if s.slc.hearing = .failed then t else t.frameLost n

/-- A frame fails by time: the part's own if it is in one, otherwise the one a station opened. The line stays busy until it is seen idle (R114). -/
def State.frameFailed (header : Option Byte) (s : State) : State :=
  match s.slc.own with
  | some o => s.cutOwn.ownEnded o.frame .failed
  | none => State.stationFrameFailed header { s with slc := { s.slc with line := .other } }

/-! ### The poll timer and a removed station -/

/-- The stations still owed an exchange on a stuck line: each is counted one failure and handed to the dispatcher as polled (R125).
DESIGN CHOICE: a station's failure is counted and its head examined before the next station's, in the order of the round; log entry 48. -/
def State.failRound (s : State) : State := s.slc.roundLeft.foldl (fun s n => (s.countFailure n).occasion n) s

/-- The line-clear sequence: pulses on the clock wire while the data wire is held low, up to nine, and once it is released a closing mark (R125). -/
def LineClear.of : Option (Fin 10) → LineClear
  | some k => { pulses := k.val, closing := true }
  | none => { pulses := 9, closing := false }

/-- The part finds how the data wire of a stuck line stands: the pulses of the next clear sequence after which it is released, none where nine do not
release it (R125). Log entry 41. -/
def State.findData (k : Option (Fin 10)) (s : State) : State := { s with slc := { s.slc with freedAfter := k } }

/-- The part sends a line-clear sequence (R125). A data wire that it has released needs no pulse in the next one, unless it is found held low again; one
that it has not released is not released by the next one either, unless it is found otherwise. Log entry 41. -/
def State.sendClear (s : State) : State :=
  { s with slc := { s.slc with
    clears := .of s.slc.freedAfter :: s.slc.clears
    freedAfter := s.slc.freedAfter.map (fun _ => 0) } }

/-- The poll timer expires: it restarts with the interval in force, and a new round begins or is owed; on a stuck line the clear sequence is sent again
and the round ends with its failures counted (R118, R125, R126). -/
def State.pollTimer (s : State) : State :=
  let s := { s with slc := { s.slc with timerPeriod := s.slc.pollInterval } }
  if s.slc.stuck then
    let s := s.sendClear.failRound
    State.beginRound { s with slc := { s.slc with window := none, turnHalt := false, turnFlow := false } }
  else if s.slc.roundLeft = [] then s.beginRound
  else { s with slc := { s.slc with roundOwed := true } }

/-- What the line drops with a removed station: its frames and owed marks, its place in the round, its window and its exchange; a frame to it that is
on the line has no outcome (R116, R118). Log entry 15. -/
def State.forgetStation (n : Nat) (s : State) : State :=
  let c := s.slc
  let turn := c.roundLeft.head? == some n
  let onLine := (c.own.map (fun o => o.frame.slot)) == some n
  State.nextRound { s with slc := { c.dropFrames (fun f => f.slot == n) with
    haltOwed := c.haltOwed.del n
    flowOwed := c.flowOwed.filter (fun m => m != n)
    roundLeft := c.roundLeft.erase n
    window := if c.window = some n then none else c.window
    turnHalt := c.turnHalt && !turn
    turnFlow := c.turnFlow && !turn
    line := if onLine then .other else c.line
    own := if onLine then none else c.own } }

end Sys2Proof.Machine
end

