-- ==== Sys2Proof/Machine/Resets.lean ====
section
/-!
DEFINITION. The two resets: POWER_ON (R182 with R1, R20, R42, R58, R63, R111, R127, R155, R170) and WARM_RESTART (R181 with R41, R79, R111, R127, R155,
R170).
-/
namespace Sys2Proof.Machine

/-- Whether a step has gone out to its station and has not ended: OFFERED, IN_PROGRESS, HALTING or IN_DOUBT (R25). -/
def StepState.isOut : StepState → Bool
  | .queued => false
  | .waitingWater => false
  | _ => true

/-- Whether a CUT step for piece p of job j is out at any station (R25). -/
def State.cutOut (s : State) (j p : Nat) : Bool :=
  s.dsp.stations.any (fun e => e.2.queue.any (fun h => decide (h.kind = .cut j p) && h.state.isOut))

/-- A placement after a warm restart: no token, and an ISSUED one is PLANNED, marked where its step was out (R25, R41). -/
def State.restartPlacement (s : State) (q : Placement) : Placement :=
  if q.state = .issued then { q with state := .planned, marked := q.marked || s.cutOut q.job q.piece, token := none }
  else { q with token := none }

/-- A piece after a warm restart mirrors its placement (R26, R41). -/
def Piece.restarted (p : Piece) : Piece := if p.state = .issued then { p with state := .planned } else p

/-- A station after a warm restart (R111). -/
def Station.restarted (st : Station) : Station :=
  { st with condition := .offline, queue := [], nextStep := 1, nextToken := 1, failures := 0, reason := .none }

/-- A point after a warm restart: INPUT, no watch, its level its wire's through invert (R170). -/
def Point.restarted (p : Point) : Point := { p with mode := .input, watch := .none, level := p.plant != p.invert }

/-- A frame being received is acknowledged no more after a warm restart (R127). -/
def Hearing.cut : Hearing → Hearing
  | .hearing => .declined
  | .unheard => .unheard
  | .declined => .declined
  | .failed => .failed

/-- The Station Line Controller after a warm restart: as at power-on with the poll interval kept. A line busy with no frame of the part's stays OTHER, and a
frame being received on it is acknowledged no more; a frame of the part's is cut off and leaves the line IDLE (R112, R127). Log entry 7. -/
def Slc.restarted (c : Slc) : Slc :=
  let z := Slc.initial c.pollInterval
  if c.line = .other then { z with line := .other, hearing := c.hearing.cut } else z

/-- The warm restart of every block; the clocks go on (R181). -/
def State.warmRestart (s : State) : State :=
  { stk := { s.stk with slabs := s.stk.slabs.mapVals (fun _ sl => { sl with placements := sl.placements.map s.restartPlacement }) }
    pln := s.pln
    job := { s.job with jobs := s.job.jobs.mapVals (fun _ jb => { jb with pieces := jb.pieces.mapVals (fun _ p => p.restarted) }) }
    cst := []
    dsp := { s.dsp with stations := s.dsp.stations.mapVals (fun _ st => st.restarted) }
    slc := s.slc.restarted
    wlc := Wlc.initial s.wlc.settings
    ppt := { points := s.ppt.points.map Point.restarted }
    lnk := Lnk.initial
    clk := s.clk
    pending := s.pending }

/-- POWER_ON. The wires are as first seen (R170, R182). -/
def execPowerOn (wires : BitVec 32) (s : State) : Host.Outcome State Fault Refusal :=
  .next { State.powerOn wires with pending := s.pending }

/-- WARM_RESTART: the moment the last byte of the RESTART reply has been sent (R181). FRAME_SENT of that reply applies the restart, and applying it
again changes nothing (log entry 6). -/
def execWarmRestart (s : State) : Host.Outcome State Fault Refusal := .next s.warmRestart

end Sys2Proof.Machine
end

