-- ==== Sys2Proof/Machine/Timers.lean ====
section
/-!
DEFINITION. The events of the part's own seconds and of the water loop's timers (R131, R136, R143, R145, R146, R179). Each acts where the condition its
rule names holds, and changes nothing where it does not (log entry 3).
-/
namespace Sys2Proof.Machine

/-! ### The second (R143, R146, R179) -/

/-- Whether the running-minutes count advances (R143). -/
def Wlc.countsMinutes (w : Wlc) : Bool :=
  match w.state with
  | .running => true
  | .purgeWait => true
  | .handoverWait => true
  | .manual => w.handover == some .keepPurge && w.purgeEnd.isNone
  | _ => false

/-- Whether a due purge is waiting (R146). -/
def Wlc.waitsForPurge (w : Wlc) : Bool :=
  w.due && w.purgeEnd.isNone && (w.state == .purgeWait || w.state == .standbyWait || w.state == .handoverWait)

/-- The loop's second: the seconds part of the count, and the wait of a due purge (R143, R146). R143 has the count advance with the running counter and each
second add one to it. DESIGN CHOICE: both go on counting seconds once that counter stands at its top (R179); log entry 51. -/
def Wlc.second (w : Wlc) : Wlc :=
  { w with
    seconds := if w.countsMinutes then w.seconds + 1 else w.seconds
    lateWait := if w.waitsForPurge then w.lateWait + 1 else w.lateWait }

/-- The clocks' second: the running counter stops at the top, the shop clock returns to 0 after it (R179). -/
def Clk.second (c : Clk) : Clk :=
  { running := min (c.running + 1) Config.wordCap, shop := if c.shop = Config.wordCap then 0 else c.shop + 1 }

/-- SECOND_TICK (R179, R143, R146). -/
def execSecondTick (s : State) : Host.Outcome State Fault Refusal :=
  .next { s with clk := s.clk.second, wlc := s.wlc.second }

/-! ### The sample (R131) -/

/-- LEVEL_GAUGE_SAMPLE: the counts and the clean volume are kept, then the throttle decision, then the makeup decision (R131, R132, R152). -/
def execLevelGaugeSample (counts : Fin 4096) (s : State) : Host.Outcome State Fault Refusal :=
  .next (s.event (fun s => (State.throttleDecision { s with wlc := { s.wlc with
    counts := counts.val, volume := cleanVolume counts.val s.wlc.settings.capacity } }).makeupDecision))

/-! ### The loop's timers -/

/-- RUNNING_MINUTES: the seconds part has reached 60, the count rises by one minute and the due test follows (R143, R144). -/
def execRunningMinutes (s : State) : Host.Outcome State Fault Refusal :=
  .next (
    if 60 ≤ s.wlc.seconds then
      s.event (fun s => (State.dueTest { s with wlc := { s.wlc with
        seconds := s.wlc.seconds - 60, minutes := min (s.wlc.minutes + 1) Config.max16 } }).dueEvent)
    else s)

/-- Whether a priming phase has run its time (R136). -/
def Priming.phaseEnded (p : Priming) (now : Nat) : Bool :=
  decide (p.start + (if p.on then Config.primeOnSeconds else Config.primeOffSeconds) ≤ now)

/-- PRIMING_PHASE: the phase changes, measured from its own start, and B0 follows (R136). -/
def execPrimingPhase (s : State) : Host.Outcome State Fault Refusal :=
  .next (
    match s.wlc.priming with
    | none => s
    | some p =>
      if p.phaseEnded s.clk.running then
        State.refreshPoint 8 { s with wlc := { s.wlc with priming := some { on := !p.on, start := s.clk.running } } }
      else s)

/-- PURGE_COMPLETE: the running counter has reached the end time of the purge that runs (R145). -/
def execPurgeComplete (s : State) : Host.Outcome State Fault Refusal :=
  .next (
    match s.wlc.purgeEnd with
    | none => s
    | some e => if e ≤ s.clk.running then s.event State.finishPurge else s)

/-- PURGE_LATE: a due purge has waited the late limit in force, and the report is sent once for the mark (R146). DESIGN CHOICE: the wait is held against the
limit in every loop state, also while a purge runs, as where a LOOP SET has lowered the limit; log entry 50. R146 does not say how a wait that is no whole number of minutes stands in the report. DESIGN CHOICE:
the whole minutes of it, rounded down; log entry 52. -/
def execPurgeLate (s : State) : Host.Outcome State Fault Refusal :=
  .next (
    if s.wlc.due = true ∧ s.wlc.lateReported = false ∧ s.wlc.settings.lateLimit * 60 ≤ s.wlc.lateWait then
      State.report (.purgeLate (s.wlc.lateWait / 60) s.wlc.minutes s.wlc.settings.interval s.wlc.grants.length s.wlc.state)
        { s with wlc := { s.wlc with lateReported := true } }
    else s)

end Sys2Proof.Machine
end

