-- ==== Sys2Proof/Machine/LineEvents.lean ====
section
/-!
DEFINITION. The events of the station line, one meaning for each row of the table (R112 to R125). An event that the line's state rules out, such as the
end of a POLL while no POLL is on the line, changes nothing (log entry 3).
-/
namespace Sys2Proof.Machine

/-- POLL_TIMER_EXPIRY (R118, R125, R126). -/
def execPollTimerExpiry (s : State) : Host.Outcome State Fault Refusal := .next (s.event State.pollTimer)

/-- LINE_IDLE: the stuck mark clears and the part opens its next frame, if it has one (R112, R117, R123, R125). While the part is in a frame of its
own the line is not idle. -/
def execLineIdle (rival : Option Byte) (s : State) : Host.Outcome State Fault Refusal :=
  .next (
    if s.slc.line = .own then s
    else State.openNext rival { s with slc := s.slc.seenIdle })

/-- OPENING_MARK: another party opens the line. The line is OTHER; a header met by the part's own frame is settled by arbitration (R112, R123). -/
def execOpeningMark (header : Option Byte) (s : State) : Host.Outcome State Fault Refusal :=
  .next (
    if s.slc.line = .own then
      match header with
      | none => s
      | some h => s.arbitrate h
    else s.hearOther header)

/-- POLL: the part's POLL ends (R115, R119). -/
def execPoll (outcome : FrameEnd) (s : State) : Host.Outcome State Fault Refusal :=
  .next (
    match s.ownFrame? with
    | some (.poll n) => if s.dsp.stations.has n then s.closeOwn.event (State.pollEnded n outcome) else s.closeOwn
    | _ => s)

/-- STEP_OFFER: the part's STEP OFFER ends (R101, R115). -/
def execStepOffer (outcome : FrameEnd) (s : State) : Host.Outcome State Fault Refusal :=
  .next (
    match s.ownFrame? with
    | some (.offer n ..) => s.closeOwn.event (State.offerEnded n outcome)
    | _ => s)

/-- FLOW_SET: the part's FLOW SET ends (R115, R116). -/
def execFlowSet (outcome : FrameEnd) (s : State) : Host.Outcome State Fault Refusal :=
  .next (
    match s.ownFrame? with
    | some (.flowSet n _) => s.closeOwn.event (State.flowEnded n outcome)
    | _ => s)

/-- HALT: the part's HALT ends (R93, R115, R116). -/
def execHalt (outcome : FrameEnd) (s : State) : Host.Outcome State Fault Refusal :=
  .next (
    match s.ownFrame? with
    | some (.halt n tok foreign) => s.closeOwn.event (State.haltEnded n tok foreign outcome)
    | _ => s)

/-- STATE: a station's frame of kind STATE, or of a kind that the part declines, is closed (R114, R119). An ALERT is not this command. -/
def execState (frame : StationFrame) (s : State) : Host.Outcome State Fault Refusal :=
  .next (if frame.kind = alertKind then s else s.event (State.frameClosed frame))

/-- ALERT: a station's frame of kind ALERT is closed (R114, R119, R122). Another kind is not this
command. -/
def execAlert (frame : StationFrame) (s : State) : Host.Outcome State Fault Refusal :=
  .next (if frame.kind = alertKind then s.event (State.frameClosed frame) else s)

/-- ANSWER_WINDOW_TIMEOUT: the window closes with no answer, which fails the exchange (R119). -/
def execAnswerWindowTimeout (s : State) : Host.Outcome State Fault Refusal :=
  .next (
    match s.slc.window with
    | none => s
    | some n => if s.slc.line = .idle then s.event (fun s => (s.countFailure n).endExchange n) else s)

/-- HOLD_LIMIT: a receiver holds the clock low for longer than 12 ms, and the frame fails (R114). -/
def execHoldLimit (header : Option Byte) (s : State) : Host.Outcome State Fault Refusal := .next (s.event (State.frameFailed header))

/-- FRAME_TIME_LIMIT: the frame is not closed within 30 ms of its opening mark, and it fails (R114). -/
def execFrameTimeLimit (header : Option Byte) (s : State) : Host.Outcome State Fault Refusal := .next (s.event (State.frameFailed header))

/-- LINE_STUCK: the line has been busy for longer than 30 ms outside the part's own frames. The mark is set, the clear sequence sent and
the report placed, once (R124, R125). On a line whose mark is set it tells how the data wire stands now, for the sequence that the next expiry of the poll
timer sends; no second report is placed (R125, log entry 41). -/
def execLineStuck (held : StuckLine) (s : State) : Host.Outcome State Fault Refusal :=
  .next (
    if s.slc.line = .other then
      let t := s.findData held.released
      if s.slc.stuck then t else State.report (.lineStuck held.wires) (State.sendClear { t with slc := { t.slc with stuck := true } })
    else s)

end Sys2Proof.Machine
end

