-- ==== Sys2Proof/Machine/Inputs.lean ====
section
/-!
DEFINITION. The plant's inputs: what a change of level of an input point does through its function (R142, R144, R153, R154, R165, R166), and the event
of a wire that has changed (R157).
-/
namespace Sys2Proof.Machine

/-! ### What the functions do -/

/-- One makeup pulse: the pulse size in force joins the makeup count, which stops at its cap (R63, R153). -/
def State.makeupPulse (s : State) : State :=
  { s with job := { s.job with makeup := min (s.job.makeup + s.wlc.settings.pulse) Config.makeupCap } }

/-- The turbidity switch becomes active: it sets the due mark while purge enabled is yes, in any state but OFF, and has no effect while a purge runs
(R144, R165). -/
def State.turbidity (s : State) : State :=
  if s.wlc.settings.purgeEnabled = true ∧ s.wlc.state ≠ .off ∧ s.wlc.purgeEnd = none ∧ s.wlc.due = false then
    State.dueEvent { s with wlc := { s.wlc with due := true } }
  else s

/-- The sump-high mark follows B6; when it clears, the wait list is served (R139, R142). -/
def State.setSumpHigh (v : Bool) (s : State) : State :=
  if s.wlc.sumpHigh = v then s
  else
    let s := { s with wlc := { s.wlc with sumpHigh := v } }
    if v then s else s.serve

/-- A change of level of a point in FUNCTION mode is handed to its function (R165, R166). -/
def State.handInput (i : Nat) (level : Bool) (s : State) : State :=
  if i = 12 then (if level then s.makeupPulse else s)
  else if i = 13 then (if level then s.turbidity else s)
  else if i = 14 then s.setSumpHigh level
  else if i = 15 then (if level then s.plantStop else s)
  else if 16 ≤ i ∧ i < 24 then s.storeFlag (i - 8) level
  else s

/-- Bring a point's level to what it drives or reads, and hand a change to its function if it is in FUNCTION mode: the edge report first (R157,
R168). -/
def State.followPoint (i : Nat) (s : State) : State :=
  let old := (s.point i).level
  let s := s.refreshPoint i
  let new := (s.point i).level
  if new ≠ old ∧ s.inFunction i = true then s.handInput i new else s

/-! ### The event -/

/-- POINT_LEVEL_CHANGE: the wire of a point has held a new value for 2 ms (R157). On a point that drives, the part's level stands, and what the
plant offers is kept for when the point stops driving (log entry 9). -/
def execPointLevelChange (point : Fin 32) (high : Bool) (s : State) : Host.Outcome State Fault Refusal :=
  .next (s.event (fun s => State.followPoint point.val (s.setPoint point.val { s.point point.val with plant := high })))

end Sys2Proof.Machine
end

