-- ==== Sys2Proof/Machine/Link.lean ====
section
/-!
DEFINITION. The host link's own events: receiving bytes (R171 to R174), the gap between bytes (R172), the end of a frame that the part sends (R177, R178,
R181), and a request of an unknown kind (R174).
-/
namespace Sys2Proof.Machine

/-! ### Receiving (R171, R172) -/

/-- What the receiver finds at the front of its bytes. -/
inductive Found where
  /-- No whole frame yet. -/
  | more
  /-- The frame is discarded; hunting goes on from the byte after its start mark. -/
  | bad
  /-- A complete frame with a good check, and the bytes after it. -/
  | good (f : ReqFrame) (rest : List Byte)
  deriving DecidableEq, Repr

/-- Read a frame from bytes that follow a start mark (R171, R172). -/
def readFrame : List Byte → Found
  | [] => .more
  | n :: t =>
    if Config.maxBody < n.toNat then .bad
    else
      match t with
      | kind :: tag :: u =>
        if u.length < n.toNat + 2 then .more
        else
          let body := u.take n.toNat
          let check := (u.drop n.toNat).take 2
          let c := crc (n :: kind :: tag :: body)
          if check = [(c >>> 8).setWidth 8, c.setWidth 8] then
            .good { kind := kind, tag := tag, body := body } (u.drop (n.toNat + 2))
          else .bad
      | _ => .more

/-- A complete frame with a good check is passed over whole, whatever becomes of it: one of a kind that is no request's, or one that finds the request list
full, is discarded by `takeFrame`, and the receiver goes on after the frame. R173 says as in R172 and R174 like a frame with a bad check, which R172 has
hunted through from the byte after its start mark. DESIGN CHOICE, both; log entry 40.

Hunt through bytes: the complete frames in order, and the bytes kept from the start mark of a frame not yet whole. With `flush`, a byte that breaks
the frame being received has come, so that no frame is kept. `fuel` bounds the bytes looked at (R172). -/
def hunt (flush : Bool) : Nat → List Byte → List ReqFrame × List Byte
  | 0, _ => ([], [])
  | _ + 1, [] => ([], [])
  | fuel + 1, b :: t =>
    if b ≠ startMark then hunt flush fuel t
    else
      match readFrame t with
      | .more => if flush then hunt flush fuel t else ([], b :: t)
      | .bad => hunt flush fuel t
      | .good f rest => (f :: (hunt flush fuel rest).1, (hunt flush fuel rest).2)

/-- A complete frame: a request joins the request list, any other kind is discarded silently (R173, R174). -/
def State.takeFrame (s : State) (f : ReqFrame) : State := if isRequestKind f.kind.toNat then s.enqueue f else s

/-- The receiver takes in its bytes: the frames found are taken in order (R172 to R174). -/
def State.receive (flush : Bool) (bs : List Byte) (s : State) : State :=
  let r := hunt flush (bs.length + 1) bs
  let s := r.1.foldl State.takeFrame s
  { s with lnk := { s.lnk with rx := r.2 } }

/-- One byte arrives, `none` for a broken one: the frame being received is then discarded and the bytes after its start mark are hunted through
(R172). -/
def State.receiveByte (s : State) : Option Byte → State
  | some b => s.receive false (s.lnk.rx ++ [b])
  | none => s.receive true s.lnk.rx

/-- HOST_FRAME_RECEIVE (R172 to R174). -/
def execHostFrameReceive (bytes : List (Option Byte)) (s : State) : Host.Outcome State Fault Refusal :=
  .next (bytes.foldl State.receiveByte s)

/-- INTER_BYTE_TIMEOUT: the frame being received is discarded, and the receiver hunts from the byte after the gap (R172). -/
def execInterByteTimeout (s : State) : Host.Outcome State Fault Refusal := .next { s with lnk := { s.lnk with rx := [] } }

/-! ### Sending (R177, R178, R181) -/

/-- A report leaves its queue: a REPORTS DROPPED report takes the freed place where reports have been dropped (R178). -/
def State.reportLeft (s : State) : State :=
  if s.lnk.dropped = 0 then s
  else
    { s with lnk := { s.lnk with
        out := s.lnk.out ++ [.report s.clk.shop (.reportsDropped s.lnk.dropped s.lnk.firstDrop)], dropped := 0, firstDrop := 0 } }

/-- Whether a frame is the reply that accepts RESTART (R181, R184). -/
def OutFrame.acceptsRestart : OutFrame → Bool
  | .reply kind _ r => kind == replyKind 0x72#8 && r.status == .ok
  | .report .. => false

/-- FRAME_SENT: the last byte of the frame being sent, the first in the sending order, has been sent, and it leaves its list (R177). A report's place
goes to REPORTS DROPPED where it is owed (R178); with the reply of RESTART the restart takes effect (R181). -/
def execFrameSent (s : State) : Host.Outcome State Fault Refusal :=
  .next (
    match s.lnk.out with
    | [] => s
    | f :: rest =>
      let t := { s with lnk := { s.lnk with out := rest } }
      if f.isReport then t.reportLeft
      else if s.lnk.restartPending ∧ f.acceptsRestart then t.warmRestart
      else t)

/-! ### A request of an unknown kind -/

/-- UNKNOWN_KIND: a request whose kind names no request is taken and answered UNKNOWN_KIND (R174). A kind that names a request, or is no request's kind,
is not this command, and nothing changes. -/
def execUnknownKind (kind tag : Byte) (body : List Byte) (s : State) : Host.Outcome State Fault Refusal :=
  .next (
    if isRequestKind kind.toNat ∧ !namesRequest kind.toNat then
      s.takeRequest { kind := kind, tag := tag, body := body } (refuse .unknownKind)
    else s)

end Sys2Proof.Machine
end

