-- ==== Sys2Proof/Machine/Stock.lean ====
section
/-!
DEFINITION. The requests of class 1: slab stock and yard locations (R8, R9, R11 to R19).
-/
namespace Sys2Proof.Machine

/-! ### Receiving and preparing -/

/-- R11, step 1. -/
def receiptValid (r : SlabReceiveReq) : Bool :=
  slabIdInRange r.slabId && within 1 Config.max16 r.material && within 50 1000 r.thickness && within 100 3600 r.xExt &&
  within 100 2200 r.yExt && decide (r.trim ≤ 50) && decide (r.cost ≤ Config.centsCap)

/-- The record a receipt creates, before its handling charge (R11). -/
def receiptRecord (r : SlabReceiveReq) : Slab :=
  { kind := .slab, parent := none, material := r.material, thickness := r.thickness, xExt := r.xExt, yExt := r.yExt, trim := r.trim,
    location := r.location, state := .received, defects := [], placements := [], carried := r.cost, capped := false, loadedOn := none }

/-- The carried cost and cost-capped mark of a slab as the reply of SLAB RECEIVE carries them. R11 names both for a receipt whose sum exceeds the cap.
DESIGN CHOICE: the reply carries them for every receipt; log entry 42. -/
def State.costBytes (s : State) (id : Nat) : List Byte :=
  match s.slab? id with
  | none => []
  | some sl => u32 sl.carried ++ mark sl.capped

/-- The carried cost of a slab as a reply carries it (R14, R86, R87). -/
def State.carriedBytes (s : State) (id : Nat) : List Byte := u32 (((s.slab? id).map (fun sl => sl.carried)).getD 0)

/-- SLAB RECEIVE (R11). -/
def slabReceive (r : SlabReceiveReq) (s : State) : State × Reply :=
  if !receiptValid r then refuse .badValue s
  else if s.stk.slabs.has r.slabId then refuse .duplicate s
  else if (floorSlot? r.location).isSome then refuse .zone s
  else if Config.maxSlabs ≤ s.stk.slabs.length then refuse .full s
  else
    let t := (s.putSlab r.slabId (receiptRecord r)).addCarried r.slabId (s.decode r.location).charge
    accept (t.costBytes r.slabId) t

/-- SLAB DEFECT (R12). -/
def slabDefect (r : SlabDefectReq) (s : State) : State × Reply :=
  whenNamed (slabIdInRange r.slabId) (fun s =>
    match s.slab? r.slabId with
    | none => refuse .notFound s
    | some sl =>
      if sl.state = .allocated ∨ sl.state = .loaded then refuse .wrongState s
      else if !decide (r.x0 < r.x1 ∧ r.x1 ≤ sl.xExt ∧ r.y0 < r.y1 ∧ r.y1 ≤ sl.yExt) then refuse .badValue s
      else if Config.maxDefects ≤ sl.defects.length then refuse .full s
      else
        accept [] (s.modSlab r.slabId (fun sl => { sl with defects := sl.defects ++ [{ x0 := r.x0, y0 := r.y0, x1 := r.x1, y1 := r.y1 }] }))) s

/-- SLAB RELEASE (R13). -/
def slabRelease (r : SlabIdReq) (s : State) : State × Reply :=
  whenNamed (slabIdInRange r.slabId) (fun s =>
    match s.slab? r.slabId with
    | none => refuse .notFound s
    | some sl =>
      if sl.state ≠ .received then refuse .wrongState s
      else accept [] (s.modSlab r.slabId (fun sl => { sl with state := .available }))) s

/-- SLAB MOVE (R14). The reply carries the code, its decode and the carried cost. R14 does not say what of the decode it carries. DESIGN CHOICE: the whole
of it, as LOCATE answers it; log entry 31. -/
def slabMove (r : SlabMoveReq) (s : State) : State × Reply :=
  whenNamed (slabIdInRange r.slabId) (fun s =>
    match s.slab? r.slabId with
    | none => refuse .notFound s
    | some sl =>
      if sl.state = .loaded then refuse .wrongState s
      else if (floorSlot? r.location).isSome then refuse .zone s
      else
        let d := s.decode r.location
        let t := (s.modSlab r.slabId (fun sl => { sl with location := r.location })).addCarried r.slabId d.charge
        accept (u16 r.location ++ d.bytes ++ t.carriedBytes r.slabId) t) s

/-- SLAB QUERY (R15). -/
def slabQuery (r : SlabIdReq) (s : State) : State × Reply :=
  whenNamed (slabIdInRange r.slabId) (fun s =>
    match s.slab? r.slabId with
    | none => refuse .notFound s
    | some sl => accept (sl.bytes r.slabId) s) s

/-- Whether a state filter passes a state; `none` is ANY (R15, R42). -/
def passesFilter {α : Type} [DecidableEq α] (filter : Option α) (st : α) : Bool :=
  match filter with
  | none => true
  | some f => f == st

/-- SLAB LIST (R15): up to 60 ids, and whether more exist. -/
def slabList (r : SlabListReq) (s : State) : State × Reply :=
  match slabFilter? r.filter with
  | none => refuse .badValue s
  | some filter =>
    if Config.maxSlabId < r.startId then refuse .badValue s
    else
      let ids := Tbl.keys (s.stk.slabs.filter (fun e : Nat × Slab => decide (r.startId ≤ e.1) && passesFilter filter e.2.state))
      accept (listed u32 (ids.take 60) ++ mark (decide (60 < ids.length))) s

/-! ### Yard locations -/

/-- LOCATE (R9). -/
def locate (r : LocateReq) (s : State) : State × Reply := accept (s.decode r.location).bytes s

/-- The six settings of a zone window in the order of R6, as ZONE SET's reply carries them (R8, R185). -/
def ZoneWindow.bytes (z : ZoneWindow) : List Byte :=
  u16 z.base ++ u16 z.mask ++ u8 z.kind.code ++ mark z.search ++ u32 z.charge ++ mark z.enabled

/-- ZONE SET (R8). -/
def zoneSet (r : ZoneSetReq) (s : State) : State × Reply :=
  match within 1 8 r.window, ZoneKind.ofCode? r.kind, yesNo? r.search, yesNo? r.enabled with
  | true, some kind, some search, some enabled =>
    let z : ZoneWindow :=
      { base := r.base, mask := r.mask, kind := kind, search := search, charge := clampTo 0 Config.chargeCap r.charge, enabled := enabled }
    acceptClamped (z.charge != r.charge) z.bytes
      { s with stk := { s.stk with zones := s.stk.zones.setIfInBounds (r.window - 1) z } }
  | _, _, _, _ => refuse .badValue s

/-- DEFAULT ZONE SET (R8). The reply carries the settings as applied, which R8 names under ADJUSTED. DESIGN CHOICE: under OK too; log entry 33. -/
def defaultZoneSet (r : DefaultZoneSetReq) (s : State) : State × Reply :=
  match ZoneKind.ofCode? r.kind, yesNo? r.search with
  | some kind, some search =>
    let z : DefaultZone := { kind := kind, search := search, charge := clampTo 0 Config.chargeCap r.charge }
    acceptClamped (z.charge != r.charge) (u8 z.kind.code ++ mark z.search ++ u32 z.charge) { s with stk := { s.stk with defaultZone := z } }
  | _, _ => refuse .badValue s

/-! ### Taking a slab out of the table -/

/-- SLAB SCRAP (R16, R77). -/
def slabScrap (r : SlabIdReq) (s : State) : State × Reply :=
  whenNamed (slabIdInRange r.slabId) (fun s =>
    match s.slab? r.slabId with
    | none => refuse .notFound s
    | some sl =>
      if sl.state = .loaded ∨ sl.placements ≠ [] then refuse .wrongState s
      else
        let settled : SettledRecord :=
          { slabId := r.slabId, cost := sl.carried, gross := sl.xExt * sl.yExt, remnantArea := 0, remnantValue := 0, remnantId := 0,
            excess := sl.carried, overCapped := decide (Config.overheadCap < s.job.overhead + sl.carried), part := 1, parts := 1, entries := [] }
        accept [] (((s.addOverhead sl.carried).report (.slabSettled settled)).delSlab r.slabId)) s

/-- The pieces a closed slab's placements name take the settled mark (R19, R26). -/
def State.settlePieces (ps : List Placement) (s : State) : State :=
  ps.foldl (fun s q => s.modPiece q.job q.piece (fun p => { p with settled := true })) s

/-- The record of a remnant (R19). -/
def Slab.remnant (sl : Slab) (parent value : Nat) (m : RemnantReq) : Slab :=
  { kind := .remnant, parent := some parent, material := sl.material, thickness := sl.thickness, xExt := m.w, yExt := m.h, trim := 0,
    location := sl.location, state := .available, defects := sl.defects.filterMap (fun d => d.carry m), placements := [], carried := value,
    capped := false, loadedOn := none }

/-- Create the remnant of a close, if one is kept (R19). -/
def State.createRemnant (parent value : Nat) (sl : Slab) (m : Option RemnantReq) (s : State) : State :=
  match m with
  | none => s
  | some m => s.putSlab m.remnantId (sl.remnant parent value m)

/-- Checks 3 to 5 of R17: the refusal of a remnant, with the remnant check of R18. -/
def State.remnantRefusal (s : State) (sl : Slab) (m : Option RemnantReq) : Option Reply :=
  match m with
  | none => none
  | some m =>
    if !slabIdInRange m.remnantId then some { status := .badValue, results := [] }
    else if s.stk.slabs.has m.remnantId then some { status := .duplicate, results := [] }
    else (sl.remnantFault s.pln.kerf s.pln.minRemnant m).map (fun d => { status := .geometry, results := u8 d.code })

/-- Whether a slab may close by its state and placements (R17, step 2). -/
def Slab.closable (sl : Slab) : Bool :=
  sl.state != .loaded && !sl.placements.isEmpty && sl.placements.all (fun q => q.state.consumed)

/-- The close itself: the settlement, the record's removal with the jobs it closes, the remnant, and the examination that a hold brings (R19, R61). -/
def State.closeSlab (id : Nat) (sl : Slab) (m : Option RemnantReq) (s : State) : State × Nat :=
  let area := match m with
    | none => 0
    | some m => m.w * m.h
  let remnantId := match m with
    | none => 0
    | some m => m.remnantId
  let r := s.settle id sl area remnantId
  let t := (r.1.settlePieces sl.placements).delSlab id
  let t := (placedAreas sl.placements).keys.foldl (fun s j => s.closeSettled j) t
  let t := t.createRemnant id r.2.1 sl m
  (if r.2.2 then t.occasionAll else t, r.2.1)

/-- SLAB CLOSE (R17). -/
def slabClose (r : SlabCloseReq) (s : State) : State × Reply :=
  whenNamed (slabIdInRange r.slabId) (fun s =>
    match s.slab? r.slabId with
    | none => refuse .notFound s
    | some sl =>
      if !sl.closable then refuse .wrongState s
      else
        match s.remnantRefusal sl r.remnant with
        | some reply => (s, reply)
        | none =>
          let t := s.closeSlab r.slabId sl r.remnant
          accept (u32 t.2 ++ u32 ((r.remnant.map (fun m => m.remnantId)).getD 0)) t.1) s

/-! ### The commands -/

/-- SLAB_RECEIVE (R11). -/
def execSlabReceive (tag : Byte) (body : Body SlabReceiveReq) (s : State) : Host.Outcome State Fault Refusal :=
  request 0x10#8 SlabReceiveReq.read SlabReceiveReq.write tag body slabReceive s
/-- SLAB_DEFECT (R12). -/
def execSlabDefect (tag : Byte) (body : Body SlabDefectReq) (s : State) : Host.Outcome State Fault Refusal :=
  request 0x11#8 SlabDefectReq.read SlabDefectReq.write tag body slabDefect s
/-- SLAB_RELEASE (R13). -/
def execSlabRelease (tag : Byte) (body : Body SlabIdReq) (s : State) : Host.Outcome State Fault Refusal :=
  request 0x12#8 SlabIdReq.read SlabIdReq.write tag body slabRelease s
/-- SLAB_MOVE (R14). -/
def execSlabMove (tag : Byte) (body : Body SlabMoveReq) (s : State) : Host.Outcome State Fault Refusal :=
  request 0x13#8 SlabMoveReq.read SlabMoveReq.write tag body slabMove s
/-- SLAB_QUERY (R15). -/
def execSlabQuery (tag : Byte) (body : Body SlabIdReq) (s : State) : Host.Outcome State Fault Refusal :=
  request 0x14#8 SlabIdReq.read SlabIdReq.write tag body slabQuery s
/-- SLAB_LIST (R15). -/
def execSlabList (tag : Byte) (body : Body SlabListReq) (s : State) : Host.Outcome State Fault Refusal :=
  request 0x15#8 SlabListReq.read SlabListReq.write tag body slabList s
/-- LOCATE (R9). -/
def execLocate (tag : Byte) (body : Body LocateReq) (s : State) : Host.Outcome State Fault Refusal :=
  request 0x16#8 LocateReq.read LocateReq.write tag body locate s
/-- ZONE_SET (R8). -/
def execZoneSet (tag : Byte) (body : Body ZoneSetReq) (s : State) : Host.Outcome State Fault Refusal :=
  request 0x17#8 ZoneSetReq.read ZoneSetReq.write tag body zoneSet s
/-- DEFAULT_ZONE_SET (R8). -/
def execDefaultZoneSet (tag : Byte) (body : Body DefaultZoneSetReq) (s : State) : Host.Outcome State Fault Refusal :=
  request 0x18#8 DefaultZoneSetReq.read DefaultZoneSetReq.write tag body defaultZoneSet s
/-- SLAB_SCRAP (R16). -/
def execSlabScrap (tag : Byte) (body : Body SlabIdReq) (s : State) : Host.Outcome State Fault Refusal :=
  request 0x19#8 SlabIdReq.read SlabIdReq.write tag body slabScrap s
/-- SLAB_CLOSE (R17 to R19). -/
def execSlabClose (tag : Byte) (body : Body SlabCloseReq) (s : State) : Host.Outcome State Fault Refusal :=
  request 0x1A#8 SlabCloseReq.read SlabCloseReq.write tag body slabClose s

end Sys2Proof.Machine
end

