-- ==== Sys2Proof/Machine/Planning.lean ====
section
/-!
DEFINITION. The requests of class 2: cut planning (R21, R31 to R39).
-/
namespace Sys2Proof.Machine

/-- The plan settings as a reply carries them (R21). -/
def Pln.bytes (p : Pln) : List Byte := u16 p.kerf ++ u16 p.minRemnant

/-- Whether any placement exists on any record (R21). -/
def State.anyPlacement (s : State) : Bool := s.stk.slabs.any (fun e => !e.2.placements.isEmpty)

/-- PLAN SET (R21). -/
def planSet (r : PlanSetReq) (s : State) : State × Reply :=
  let kerf := (r.kerf.map (clampTo 1 8)).getD s.pln.kerf
  let least := (r.minRemnant.map (clampTo 100 1000)).getD s.pln.minRemnant
  let clamped := !optAll r.kerf (within 1 8) || !optAll r.minRemnant (within 100 1000)
  if kerf ≠ s.pln.kerf ∧ s.anyPlacement = true then refuse .wrongState s
  else
    let p : Pln := { kerf := kerf, minRemnant := least }
    acceptClamped clamped p.bytes { s with pln := p }

/-- PLACE (R31). -/
def place (r : PlaceReq) (s : State) : State × Reply :=
  whenNamed (slabIdInRange r.slabId && jobInRange r.job && pieceInRange r.piece) (fun s =>
    match yesNo? r.rotation with
    | none => refuse .badValue s
    | some rotated =>
      if Config.max16 < r.x ∨ Config.max16 < r.y then refuse .badValue s
      else
        match s.slab? r.slabId, s.job? r.job, s.piece? r.job r.piece with
        | some sl, some jb, some pc =>
          if rotated = true ∧ pc.grain = true then refuse .badValue s
          else
            match s.placeRefusal r.slabId sl r.job jb pc with
            | some reply => (s, reply)
            | none =>
              let q := newPlacement r.job r.piece pc r.x r.y rotated
              match sl.rectFault s.pln.kerf q.x q.y q.w q.h with
              | some d => refuseGeometry d s
              | none => s.createPlacement r.slabId sl q
        | _, _, _ => refuse .notFound s) s

/-- PLACE AUTO naming a slab (R34). -/
def placeOnSlab (id j p : Nat) (s : State) : State × Reply :=
  match s.slab? id, s.job? j, s.piece? j p with
  | some sl, some jb, some pc =>
    match s.placeRefusal id sl j jb pc with
    | some reply => (s, reply)
    | none =>
      match sl.fit s.pln.kerf pc with
      | some f => s.createPlacement id sl (newPlacement j p pc f.1 f.2.1 f.2.2)
      | none => refuseGeometry .noFit s
  | _, _, _ => refuse .notFound s

/-- PLACE AUTO naming no slab (R35, R36). -/
def placeAnywhere (j p : Nat) (s : State) : State × Reply :=
  match s.job? j, s.piece? j p with
  | some jb, some pc =>
    if pc.state ≠ .unplaced ∨ jb.takesWork = false then refuse .wrongState s
    else
      match firstFit s.pln.kerf pc (s.searchOrder j pc) with
      | some (id, sl, x, y, rotated) => s.createPlacement id sl (newPlacement j p pc x y rotated)
      | none => refuseGeometry .noFit s
  | _, _ => refuse .notFound s

/-- PLACE AUTO (R34, R35). -/
def placeAuto (r : PlaceAutoReq) (s : State) : State × Reply :=
  match r with
  | .onSlab id j p => whenNamed (slabIdInRange id && jobInRange j && pieceInRange p) (placeOnSlab id j p) s
  | .anySlab j p => whenNamed (jobInRange j && pieceInRange p) (placeAnywhere j p) s

/-- A slab without the placement of a piece; an ALLOCATED slab left with none becomes AVAILABLE (R3, R23, R37). -/
def Slab.without (sl : Slab) (j p : Nat) : Slab :=
  let ps := sl.placements.filter (fun q => !(q.job == j && q.piece == p))
  { sl with placements := ps, state := if sl.state = .allocated ∧ ps = [] then .available else sl.state }

/-- UNPLACE (R37). -/
def unplace (r : PieceReq) (s : State) : State × Reply :=
  whenNamed (jobInRange r.job && pieceInRange r.piece) (fun s =>
    match s.piece? r.job r.piece with
    | none => refuse .notFound s
    | some _ =>
      match s.placement? r.job r.piece with
      | none => refuse .wrongState s
      | some (id, q) =>
        if q.state ≠ .planned then refuse .wrongState s
        else
          accept [] ((s.modSlab id (fun sl => sl.without r.job r.piece)).modPiece r.job r.piece (fun pc => { pc with state := .unplaced }))) s

/-- Up to 12 placements of a list from an index on, each with its index (R38). -/
def pagedPlacements (ps : List Placement) (start : Nat) : List (Nat × Placement) :=
  let page := (ps.drop (start - 1)).take 12
  ((List.range page.length).map (fun i => i + start)).zip page

/-- PLAN QUERY naming a slab (R38). -/
def planOfSlab (id start : Nat) (s : State) : State × Reply :=
  match s.slab? id with
  | none => refuse .notFound s
  | some sl =>
    if !within 1 24 start then refuse .badValue s
    else
      accept (u32 id ++ u8 sl.placements.length ++ u8 sl.interrupted ++
        listed (fun e : Nat × Placement => u8 e.1 ++ e.2.bytes) (pagedPlacements sl.placements start)) s

/-- PLAN QUERY naming a piece (R38). -/
def planOfPiece (j p : Nat) (s : State) : State × Reply :=
  match s.piece? j p with
  | none => refuse .notFound s
  | some _ =>
    match s.placement? j p with
    | none => refuse .wrongState s
    | some (id, q) =>
      let index := ((s.slab? id).map (fun sl => placementIndex j p sl.placements)).getD 0
      accept (u32 id ++ u8 index ++ q.bytes) s

/-- PLAN QUERY (R38). -/
def planQuery (r : PlanQueryReq) (s : State) : State × Reply :=
  match r with
  | .slabForm id start => whenNamed (slabIdInRange id) (planOfSlab id start) s
  | .jobForm j p => whenNamed (jobInRange j && pieceInRange p) (planOfPiece j p) s

/-- RESOLVE (R39). -/
def resolve (r : ResolveReq) (s : State) : State × Reply :=
  whenNamed (jobInRange r.job && pieceInRange r.piece) (fun s =>
    match resolveOutcome? r.outcome with
    | none => refuse .badValue s
    | some st =>
      match s.piece? r.job r.piece with
      | none => refuse .notFound s
      | some _ =>
        match s.placement? r.job r.piece with
        | none => refuse .wrongState s
        | some (_, q) =>
          if q.marked = false ∨ q.state = .issued then refuse .wrongState s
          else accept [] ((s.modPlacement r.job r.piece (fun q => { q with marked := false })).movePlacement r.job r.piece st)) s

/-! ### The commands -/

/-- PLAN_SET (R21). -/
def execPlanSet (tag : Byte) (body : Body PlanSetReq) (s : State) : Host.Outcome State Fault Refusal :=
  request 0x20#8 PlanSetReq.read PlanSetReq.write tag body planSet s
/-- PLACE (R31). -/
def execPlace (tag : Byte) (body : Body PlaceReq) (s : State) : Host.Outcome State Fault Refusal :=
  request 0x21#8 PlaceReq.read PlaceReq.write tag body place s
/-- PLACE_AUTO (R34 to R36). -/
def execPlaceAuto (tag : Byte) (body : Body PlaceAutoReq) (s : State) : Host.Outcome State Fault Refusal :=
  request 0x22#8 PlaceAutoReq.read PlaceAutoReq.write tag body placeAuto s
/-- UNPLACE (R37). -/
def execUnplace (tag : Byte) (body : Body PieceReq) (s : State) : Host.Outcome State Fault Refusal :=
  request 0x23#8 PieceReq.read PieceReq.write tag body unplace s
/-- PLAN_QUERY (R38). -/
def execPlanQuery (tag : Byte) (body : Body PlanQueryReq) (s : State) : Host.Outcome State Fault Refusal :=
  request 0x24#8 PlanQueryReq.read PlanQueryReq.write tag body planQuery s
/-- RESOLVE (R39). -/
def execResolve (tag : Byte) (body : Body ResolveReq) (s : State) : Host.Outcome State Fault Refusal :=
  request 0x25#8 ResolveReq.read ResolveReq.write tag body resolve s

end Sys2Proof.Machine
end

