-- ==== Sys2Proof/Machine/JobRequests.lean ====
section
/-!
DEFINITION. The requests of class 3: jobs, pieces and rate sets (R42, R46 to R52, R54, R57, R59, R62), and SHOP ACCOUNT (R63), whose account the Job
Table owns.
-/
namespace Sys2Proof.Machine

/-! ### Jobs -/

/-- The word NONE for an estimate in JOB SET (R185). -/
def noEstimate : Nat := 0xFFFFFFFF

/-- An estimate as the replies of JOB SET and JOB QUERY carry it: present or not, and its value (R47, R57). R183 gives cents no absent value, and 10.3
lays out JOB SETTLED alone. DESIGN CHOICE: as there, a mark and then four bytes, 0 when absent; log entry 32. -/
def estimateBytes (e : Option Nat) : List Byte := mark e.isSome ++ u32 (e.getD 0)

/-- JOB OPEN (R46). -/
def jobOpen (r : JobOpenReq) (s : State) : State × Reply :=
  if !jobInRange r.job || !decide (r.rateSet ≤ 3) || !optAll r.estimate (fun e => decide (e ≤ Config.maxEstimate)) then
    refuse .badValue s
  else if s.job.jobs.has r.job then refuse .duplicate s
  else if Config.maxJobs ≤ s.job.jobs.length then refuse .full s
  else
    accept (u16 r.job) (s.putJob r.job
      { state := .opened, cause := none, rateSet := r.rateSet, estimate := r.estimate, overEstimate := false, pieces := [],
        material := 0, machine := 0, water := 0, tool := 0 })

/-- The estimate a JOB SET leaves: the given one, none for NONE, the old one where absent (R47, R185). -/
def setEstimate (given old : Option Nat) : Option Nat :=
  match given with
  | none => old
  | some e => if e = noEstimate then none else some e

/-- JOB SET (R47). A request that changes the estimate makes the over-estimate test (R56). -/
def jobSet (r : JobSetReq) (s : State) : State × Reply :=
  whenNamed (jobInRange r.job) (fun s =>
    match s.job? r.job with
    | none => refuse .notFound s
    | some jb =>
      if !optAll r.rateSet (fun k => decide (k ≤ 3)) || !optAll r.estimate (fun e => decide (e ≤ Config.maxEstimate ∨ e = noEstimate)) then
        refuse .badValue s
      else if !jb.takesWork then refuse .wrongState s
      else
        let k := r.rateSet.getD jb.rateSet
        let e := setEstimate r.estimate jb.estimate
        let t := s.modJob r.job (fun jb => { jb with rateSet := k, estimate := e })
        let t := if r.estimate.isSome then t.testEstimate r.job else t
        accept (u8 k ++ estimateBytes e) t) s

/-- JOB LIST (R42). -/
def jobList (r : JobListReq) (s : State) : State × Reply :=
  match jobFilter? r.filter with
  | none => refuse .badValue s
  | some filter =>
    accept (listed (fun e : Nat × Job => u16 e.1 ++ u8 e.2.state.code) (s.job.jobs.filter (fun e => passesFilter filter e.2.state))) s

/-- JOB QUERY (R57). -/
def jobQuery (r : JobQueryReq) (s : State) : State × Reply :=
  whenNamed (jobInRange r.job) (fun s =>
    match s.job? r.job with
    | none => refuse .notFound s
    | some jb =>
      if !within 1 Config.maxPieces r.start then refuse .badValue s
      else
        let ps : Tbl Piece := jb.pieces.filter (fun e => decide (r.start ≤ e.1))
        accept (u8 jb.state.code ++ u8 (HoldCause.code jb.cause) ++ u8 jb.rateSet ++ estimateBytes jb.estimate ++ mark jb.overEstimate ++
          u32 jb.material ++ u32 jb.machine ++ u32 jb.water ++ u32 jb.tool ++ u32 jb.sum ++ u8 (s.pendingSlabs r.job) ++
          u8 jb.pieces.length ++ listed (fun e : Nat × Piece => e.2.bytes e.1) (ps.take 12) ++ mark (decide (12 < ps.length))) s) s

/-! ### Pieces -/

/-- R48, step 1, with the grain lock's value. -/
def pieceGrain? (r : PieceAddReq) : Option Bool :=
  if pieceInRange r.piece && within 1 Config.max16 r.material && within 50 3600 r.xExt && within 50 3600 r.yExt &&
      decide (r.group ≤ 7) then yesNo? r.grain
  else none

/-- The piece a PIECE ADD inserts: UNPLACED, its marks clear (R48). -/
def newPiece (r : PieceAddReq) (grain : Bool) : Piece :=
  { material := r.material, xExt := r.xExt, yExt := r.yExt, grain := grain, group := r.group, state := .unplaced, settled := false,
    notMade := false }

/-- PIECE ADD (R48). -/
def pieceAdd (r : PieceAddReq) (s : State) : State × Reply :=
  whenNamed (jobInRange r.job) (fun s =>
    match pieceGrain? r with
    | none => refuse .badValue s
    | some grain =>
      match s.job? r.job with
      | none => refuse .notFound s
      | some jb =>
        if !jb.takesWork then refuse .wrongState s
        else if Config.maxPieces ≤ jb.pieces.length then refuse .full s
        else if jb.pieces.has r.piece then refuse .duplicate s
        else
          accept [] (s.modJob r.job (fun jb => { jb with pieces := jb.pieces.put r.piece (newPiece r grain) }))) s

/-- PIECE REMOVE (R49). -/
def pieceRemove (r : PieceReq) (s : State) : State × Reply :=
  whenNamed (jobInRange r.job && pieceInRange r.piece) (fun s =>
    match s.job? r.job with
    | none => refuse .notFound s
    | some jb =>
      match jb.pieces.get? r.piece with
      | none => refuse .notFound s
      | some pc =>
        if jb.takesWork = false ∨ pc.state ≠ .unplaced then refuse .wrongState s
        else accept [] (s.modJob r.job (fun jb => { jb with pieces := jb.pieces.del r.piece }))) s

/-! ### Holding, closing, discarding -/

/-- JOB HOLD (R50). -/
def jobHold (r : JobReq) (s : State) : State × Reply :=
  whenNamed (jobInRange r.job) (fun s =>
    match s.job? r.job with
    | none => refuse .notFound s
    | some jb =>
      if jb.state ≠ .opened then refuse .wrongState s
      else accept [] (s.modJob r.job (fun jb => { jb with state := .held, cause := some .host })).occasionAll) s

/-- JOB RESUME (R51). -/
def jobResume (r : JobReq) (s : State) : State × Reply :=
  whenNamed (jobInRange r.job) (fun s =>
    match s.job? r.job with
    | none => refuse .notFound s
    | some jb =>
      if jb.state ≠ .held then refuse .wrongState s
      else accept [] (s.modJob r.job (fun jb => { jb with state := .opened, cause := none })).occasionAll) s

/-- Whether a job may close by its state and its pieces (R52). -/
def Job.closable (jb : Job) : Bool :=
  jb.takesWork && jb.pieces.all (fun e => e.2.state != .planned && e.2.state != .issued)

/-- A job at its close: its hold cause goes, and each UNPLACED piece takes the not-made mark (R52). -/
def Job.closeTo (jb : Job) (st : JobState) : Job :=
  { jb with
    state := st
    cause := none
    pieces := jb.pieces.mapVals (fun _ p => { p with notMade := p.notMade || p.state == .unplaced }) }

/-- JOB CLOSE (R52). -/
def jobClose (r : JobReq) (s : State) : State × Reply :=
  whenNamed (jobInRange r.job) (fun s =>
    match s.job? r.job with
    | none => refuse .notFound s
    | some jb =>
      if !jb.closable then refuse .wrongState s
      else
        let count := s.pendingSlabs r.job
        if 0 < count then
          accept (u8 JobState.closing.code ++ u8 count) (s.modJob r.job (fun jb => jb.closeTo .closing))
        else
          accept (u8 JobState.closed.code)
            ((s.modJob r.job (fun jb => jb.closeTo .closed)).report (Job.settledReport r.job (jb.closeTo .closed)))) s

/-- JOB DISCARD (R54). -/
def jobDiscard (r : JobReq) (s : State) : State × Reply :=
  whenNamed (jobInRange r.job) (fun s =>
    match s.job? r.job with
    | none => refuse .notFound s
    | some jb =>
      if jb.state ≠ .closed then refuse .wrongState s
      else accept [] { s with job := { s.job with jobs := s.job.jobs.del r.job } }) s

/-! ### Rate sets and the overhead account -/

/-- Top of the machine rates (R58). -/
def machineTop : Nat := 999999
/-- Top of the tool rates and the water rate (R58). -/
def rateTop : Nat := 9999

/-- Whether every rate of a RATESET SET lies in its range (R58, R59). -/
def ratesInRange (r : RatesetSetReq) : Bool :=
  decide (r.machineSaw ≤ machineTop ∧ r.machineJet ≤ machineTop ∧ r.machineWater ≤ machineTop ∧ r.toolSaw ≤ rateTop ∧ r.toolJet ≤ rateTop ∧
    r.toolWater ≤ rateTop ∧ r.water ≤ rateTop)

/-- A rate set with the rates, mode and setting of a request, clamped; its flags stand (R59). -/
def applyRates (r : RatesetSetReq) (rounding : Rounding) (hold : Bool) (x : RateSet) : RateSet :=
  { machineSaw := min r.machineSaw machineTop, machineJet := min r.machineJet machineTop, machineWater := min r.machineWater machineTop,
    toolSaw := min r.toolSaw rateTop, toolJet := min r.toolJet rateTop, toolWater := min r.toolWater rateTop, water := min r.water rateTop,
    rounding := rounding, holdOnSaturate := hold, inexact := x.inexact, saturated := x.saturated }

/-- The settings of a rate set as RATESET SET's reply carries them (R59, R176): its number, the seven rates in 4 bytes each, the rounding mode and the
hold-on-saturate setting. R59 names the rates as applied, under ADJUSTED. DESIGN CHOICE: every value the request writes is carried, its number first, and
under OK too; log entry 33. -/
def RateSet.settingBytes (n : Nat) (x : RateSet) : List Byte :=
  u8 n ++ u32 x.machineSaw ++ u32 x.machineJet ++ u32 x.machineWater ++ u32 x.toolSaw ++ u32 x.toolJet ++ u32 x.toolWater ++ u32 x.water ++
  u8 x.rounding.code ++ mark x.holdOnSaturate

/-- RATESET SET (R59). -/
def ratesetSet (r : RatesetSetReq) (s : State) : State × Reply :=
  match decide (r.number ≤ 3), Rounding.ofCode? r.rounding, yesNo? r.holdOnSaturate with
  | true, some rounding, some hold =>
    let t := s.modRateSet r.number (applyRates r rounding hold)
    acceptClamped (!ratesInRange r) ((t.rateSet r.number).settingBytes r.number) t
  | _, _, _ => refuse .badValue s

/-- RATESET QUERY (R62). -/
def ratesetQuery (r : RatesetQueryReq) (s : State) : State × Reply :=
  match decide (r.number ≤ 3), yesNo? r.clear with
  | true, some clear =>
    accept (s.rateSet r.number).bytes
      (if clear then s.modRateSet r.number (fun x => { x with inexact := false, saturated := false }) else s)
  | _, _ => refuse .badValue s

/-- SHOP ACCOUNT (R63). -/
def shopAccount (r : ShopAccountReq) (s : State) : State × Reply :=
  match yesNo? r.clear with
  | none => refuse .badValue s
  | some clear =>
    accept (u64 s.job.overhead ++ u32 s.job.makeup)
      (if clear then { s with job := { s.job with overhead := 0, makeup := 0 } } else s)

/-! ### The commands -/

/-- JOB_OPEN (R46). -/
def execJobOpen (tag : Byte) (body : Body JobOpenReq) (s : State) : Host.Outcome State Fault Refusal :=
  request 0x30#8 JobOpenReq.read JobOpenReq.write tag body jobOpen s
/-- JOB_SET (R47). -/
def execJobSet (tag : Byte) (body : Body JobSetReq) (s : State) : Host.Outcome State Fault Refusal :=
  request 0x31#8 JobSetReq.read JobSetReq.write tag body jobSet s
/-- JOB_LIST (R42). -/
def execJobList (tag : Byte) (body : Body JobListReq) (s : State) : Host.Outcome State Fault Refusal :=
  request 0x32#8 JobListReq.read JobListReq.write tag body jobList s
/-- JOB_QUERY (R57). -/
def execJobQuery (tag : Byte) (body : Body JobQueryReq) (s : State) : Host.Outcome State Fault Refusal :=
  request 0x33#8 JobQueryReq.read JobQueryReq.write tag body jobQuery s
/-- PIECE_ADD (R48). -/
def execPieceAdd (tag : Byte) (body : Body PieceAddReq) (s : State) : Host.Outcome State Fault Refusal :=
  request 0x34#8 PieceAddReq.read PieceAddReq.write tag body pieceAdd s
/-- PIECE_REMOVE (R49). -/
def execPieceRemove (tag : Byte) (body : Body PieceReq) (s : State) : Host.Outcome State Fault Refusal :=
  request 0x35#8 PieceReq.read PieceReq.write tag body pieceRemove s
/-- JOB_HOLD (R50). -/
def execJobHold (tag : Byte) (body : Body JobReq) (s : State) : Host.Outcome State Fault Refusal :=
  request 0x36#8 JobReq.read JobReq.write tag body jobHold s
/-- JOB_RESUME (R51). -/
def execJobResume (tag : Byte) (body : Body JobReq) (s : State) : Host.Outcome State Fault Refusal :=
  request 0x37#8 JobReq.read JobReq.write tag body jobResume s
/-- JOB_CLOSE (R52). -/
def execJobClose (tag : Byte) (body : Body JobReq) (s : State) : Host.Outcome State Fault Refusal :=
  request 0x38#8 JobReq.read JobReq.write tag body jobClose s
/-- JOB_DISCARD (R54). -/
def execJobDiscard (tag : Byte) (body : Body JobReq) (s : State) : Host.Outcome State Fault Refusal :=
  request 0x39#8 JobReq.read JobReq.write tag body jobDiscard s
/-- RATESET_SET (R59). -/
def execRatesetSet (tag : Byte) (body : Body RatesetSetReq) (s : State) : Host.Outcome State Fault Refusal :=
  request 0x3A#8 RatesetSetReq.read RatesetSetReq.write tag body ratesetSet s
/-- RATESET_QUERY (R62). -/
def execRatesetQuery (tag : Byte) (body : Body RatesetQueryReq) (s : State) : Host.Outcome State Fault Refusal :=
  request 0x3B#8 RatesetQueryReq.read RatesetQueryReq.write tag body ratesetQuery s
/-- SHOP_ACCOUNT (R63). -/
def execShopAccount (tag : Byte) (body : Body ShopAccountReq) (s : State) : Host.Outcome State Fault Refusal :=
  request 0x73#8 ShopAccountReq.read ShopAccountReq.write tag body shopAccount s

end Sys2Proof.Machine
end

