-- ==== Sys2Proof/Machine/StationRequests.lean ====
section
/-!
DEFINITION. The requests of class 4: station records, loading, the step queue, shop flags, tool life and the line's settings (R82 to R87, R91 to R93,
R95, R96, R126).
-/
namespace Sys2Proof.Machine

/-! ### Station records -/

/-- The values of a station as STATION DEFINE's reply carries them (R82). -/
def Station.definedBytes (slot : Nat) (st : Station) : List Byte :=
  u8 slot ++ u8 st.address ++ u8 st.cls.code ++ u8 st.flow ++ u32 st.loadCharge ++ u32 st.toolLife

/-- The record a STATION DEFINE creates, its flow and load charge clamped (R82). -/
def newStation (r : StationDefineReq) (cls : StationClass) : Station :=
  { address := r.address, cls := cls, flow := clampTo 5 80 r.flow, loadCharge := clampTo 0 Config.chargeCap r.loadCharge,
    condition := .offline, hold := false, toolLife := r.toolLife, toolLow := false, loaded := none, queue := [], nextStep := 1,
    nextToken := 1, failures := 0, reason := .none }

/-- STATION DEFINE (R82). The reply carries the six values as applied, in the order of the request, which R82 and R176 name under ADJUSTED. DESIGN CHOICE:
under OK too; log entry 33. -/
def stationDefine (r : StationDefineReq) (s : State) : State × Reply :=
  match slotInRange r.slot && within 1 119 r.address && decide (r.toolLife ≤ 99999999), StationClass.ofCode? r.cls with
  | true, some cls =>
    if s.dsp.stations.has r.slot || s.dsp.stations.any (fun e => e.2.address == r.address) then refuse .duplicate s
    else
      let st := newStation r cls
      acceptClamped (st.flow != r.flow || st.loadCharge != r.loadCharge) (st.definedBytes r.slot)
        { s with dsp := { s.dsp with stations := s.dsp.stations.put r.slot st } }
  | _, _ => refuse .badValue s

/-- STATION REMOVE (R83). -/
def stationRemove (r : SlotReq) (s : State) : State × Reply :=
  whenNamed (slotInRange r.slot) (fun s =>
    match s.station? r.slot with
    | none => refuse .notFound s
    | some st =>
      if st.loaded.isSome ∨ st.queue ≠ [] then refuse .wrongState s
      else accept [] (State.forgetStation r.slot { s with dsp := { s.dsp with stations := s.dsp.stations.del r.slot } })) s

/-- STATION QUERY (R83). -/
def stationQuery (r : SlotReq) (s : State) : State × Reply :=
  whenNamed (slotInRange r.slot) (fun s =>
    match s.station? r.slot with
    | none => refuse .notFound s
    | some st => accept (st.bytes r.slot) s) s

/-- STATION HOLD (R84): a WAITING_WATER head has its entry withdrawn, with reason STATION_HOLD (R102). -/
def stationHold (r : SlotReq) (s : State) : State × Reply :=
  whenNamed (slotInRange r.slot) (fun s =>
    match s.station? r.slot with
    | none => refuse .notFound s
    | some st =>
      if st.hold then accept [] s
      else
        accept [] (((s.modStation r.slot (fun st => { st with hold := true })).withdrawHead r.slot .stationHold).occasion r.slot)) s

/-- STATION RELEASE (R84). -/
def stationRelease (r : SlotReq) (s : State) : State × Reply :=
  whenNamed (slotInRange r.slot) (fun s =>
    match s.station? r.slot with
    | none => refuse .notFound s
    | some st =>
      if !st.hold then accept [] s
      else accept [] ((s.modStation r.slot (fun st => { st with hold := false })).occasion r.slot)) s

/-- FAULT CLEAR (R85). -/
def faultClear (r : SlotReq) (s : State) : State × Reply :=
  whenNamed (slotInRange r.slot) (fun s =>
    match s.station? r.slot with
    | none => refuse .notFound s
    | some st => if st.condition ≠ .fault then refuse .wrongState s else accept [] (s.changeCondition r.slot .ready)) s

/-! ### Loading and unloading -/

/-- The floor code of a slot (R5). -/
def floorCode (n : Nat) : Nat := Config.floorBase + n

/-- Put a slab on a station: its location, its state and both records of where it stands (R3, R86). -/
def State.putOnStation (n id : Nat) (s : State) : State :=
  (s.modSlab id (fun sl => { sl with location := floorCode n, state := .loaded, loadedOn := some n })).modStation n
    (fun st => { st with loaded := some id })

/-- LOAD (R86). -/
def load (r : LoadReq) (s : State) : State × Reply :=
  whenNamed (slotInRange r.slot && slabIdInRange r.slabId) (fun s =>
    match s.station? r.slot, s.slab? r.slabId with
    | some st, some sl =>
      if st.condition ≠ .ready ∧ st.condition ≠ .offline then refuse .wrongState s
      else if st.loaded.isSome then refuse .wrongState s
      else if sl.state ≠ .available ∧ sl.state ≠ .allocated then refuse .wrongState s
      else if s.inQuarantine sl then refuse .zone s
      else
        let t := (s.putOnStation r.slot r.slabId).addCarried r.slabId st.loadCharge
        accept (u32 r.slabId ++ u16 (floorCode r.slot) ++ t.carriedBytes r.slabId) t
    | _, _ => refuse .notFound s) s

/-- A step that has not gone out is taken out of the queue: its wait-list entry, if any, is withdrawn, and it retires CANCELLED (R92). -/
def State.cancelStep (n : Nat) (h : Step) (s : State) : State :=
  (if h.state = .waitingWater then s.removeEntry n else s).retireUncharged n h .cancelled

/-- Every step of a queue is cancelled in its order (R87). -/
def State.cancelAll (n : Nat) (s : State) : State :=
  match s.station? n with
  | none => s
  | some st => st.queue.foldl (fun s h => s.cancelStep n h) s

/-- Take a slab off a station to a location code: the code, the state by its placements, both records (R3, R87). -/
def State.takeOffStation (n id code : Nat) (s : State) : State :=
  (s.modSlab id (fun sl =>
    { sl with location := code, loadedOn := none, state := if sl.placements = [] then .available else .allocated })).modStation n
    (fun st => { st with loaded := none })

/-- The accepted UNLOAD: an IN_DOUBT head retires, the rest of the queue is cancelled, the slab moves and pays the zone's charge, and a hold by the
charge is an occasion at every station (R61, R87). -/
def State.unloadSlab (n id code : Nat) (s : State) : State :=
  let r := if (s.head? n).map (·.state) = some .inDoubt then s.retireOut n lostEnding else (s, false)
  let t := ((r.1.cancelAll n).takeOffStation n id code).addCarried id (s.decode code).charge
  if r.2 then t.occasionAll else t

/-- Whether a station's head is with the station and may still end by its report (R87). -/
def StepState.running : StepState → Bool
  | .offered => true
  | .inProgress => true
  | .halting => true
  | _ => false

/-- UNLOAD (R87). The reply carries the whole decode, as SLAB MOVE's (log entry 31). -/
def unload (r : UnloadReq) (s : State) : State × Reply :=
  whenNamed (slotInRange r.slot) (fun s =>
    if Config.max16 < r.location then refuse .badValue s
    else
      match s.station? r.slot with
      | none => refuse .notFound s
      | some st =>
        match st.loaded with
        | none => refuse .wrongState s
        | some id =>
          if (st.queue.head?.map (fun h => h.state.running)) = some true then refuse .wrongState s
          else if (floorSlot? r.location).isSome then refuse .zone s
          else
            let t := s.unloadSlab r.slot id r.location
            accept (u32 id ++ u16 r.location ++ (s.decode r.location).bytes ++ t.carriedBytes id) t) s

/-! ### The step queue -/

/-- The gate of a STEP QUEUE: `some none` where it carries none, none where its flag or sense is out of range (R91). -/
def gate? : Option GateReq → Option (Option Gate)
  | none => some none
  | some g =>
    match decide (g.flag ≤ 15), yesNo? g.sense with
    | true, some sense => some (some { flag := g.flag, sense := sense })
    | _, _ => none

/-- The kind of a STEP QUEUE with its particulars; none where a field of the named kind is out of range. The fields of the other kinds are not tested
(R91, R185). -/
def stepKind? (r : StepQueueReq) : Option StepKind :=
  match r.kind with
  | 0 => if jobInRange r.job && pieceInRange r.piece then some (.cut r.job r.piece) else none
  | 1 => if within 10 10000 r.trim then some (.trim r.trim) else none
  | 2 =>
    match decide (within 50 1000 r.winMin = true ∧ within 50 1000 r.winMax = true ∧ r.winMin < r.winMax ∧ within 1 15 r.targetA = true ∧
        within 1 15 r.targetB = true ∧ r.targetA ≠ r.targetB), ProbeForm.ofCode? r.form with
    | true, some form => some (.probe r.winMin r.winMax r.targetA r.targetB form)
    | _, _ => none
  | _ => none

/-- The next free step number from a number on, going from 65,535 to 1 and passing over numbers held; `fuel` bounds the numbers passed over (R90). -/
def freeNumber (held : List Nat) : Nat → Nat → Nat
  | 0, k => k
  | fuel + 1, k => if held.contains k then freeNumber held fuel (if k = Config.max16 then 1 else k + 1) else k

/-- The step number that follows one, for a queue (R90). -/
def nextNumber (q : List Step) (k : Nat) : Nat :=
  freeNumber (q.map (·.number)) (q.length + 1) (if k = Config.max16 then 1 else k + 1)

/-- A step as STEP QUEUE makes it (R91). -/
def newStep (number : Nat) (kind : StepKind) (gate : Option Gate) : Step :=
  { number := number, kind := kind, gate := gate, state := .queued, token := none, grantHeld := false, water := 0, lastToken := 0,
    stopPending := false }

/-- A step joins the tail of a queue and the next step number advances (R90, R91). -/
def Station.appendStep (st : Station) (kind : StepKind) (gate : Option Gate) : Station :=
  { st with queue := st.queue ++ [newStep st.nextStep kind gate],
            nextStep := nextNumber (st.queue ++ [newStep st.nextStep kind gate]) st.nextStep }

/-- The placement of a CUT step, with its piece, becomes ISSUED (R24, R91). -/
def State.issue (kind : StepKind) (s : State) : State :=
  match kind with
  | .cut j p => s.movePlacement j p .issued
  | _ => s

/-- Whether the CUT of a piece may be queued where slab id stands: the piece has a PLANNED placement on that slab (R91). -/
def State.cuttable (s : State) (id : Nat) : StepKind → Bool
  | .cut j p =>
    match s.placement? j p with
    | none => false
    | some (on, q) => q.state == .planned && on == id
  | _ => true

/-- Whether the job and piece of a CUT exist (R91). -/
def State.cutExists (s : State) : StepKind → Bool
  | .cut j p => (s.piece? j p).isSome
  | _ => true

/-- STEP QUEUE (R91). -/
def stepQueue (r : StepQueueReq) (s : State) : State × Reply :=
  match slotInRange r.slot, stepKind? r, gate? r.gate with
  | true, some kind, some gate =>
    match s.station? r.slot with
    | none => refuse .notFound s
    | some st =>
      if !s.cutExists kind then refuse .notFound s
      else
        match st.loaded with
        | none => refuse .wrongState s
        | some id =>
          if !s.cuttable id kind then refuse .wrongState s
          else if Config.maxSteps ≤ st.queue.length then refuse .full s
          else
            let t := (s.modStation r.slot (fun st => st.appendStep kind gate)).issue kind
            accept (u16 st.nextStep ++ u8 (st.queue.length + 1)) (if st.queue = [] then t.occasion r.slot else t)
  | _, _, _ => refuse .badValue s

/-- STEP CANCEL (R92). -/
def stepCancel (r : StepCancelReq) (s : State) : State × Reply :=
  whenNamed (slotInRange r.slot && stepInRange r.number) (fun s =>
    match s.station? r.slot with
    | none => refuse .notFound s
    | some st =>
      match st.queue.find? (fun h => h.number == r.number) with
      | none => refuse .notFound s
      | some h =>
        if h.state.isOut then refuse .wrongState s
        else
          let t := s.cancelStep r.slot h
          accept [] (if st.queue.head?.map (·.number) = some r.number then t.occasion r.slot else t)) s

/-- STEP ABORT (R93). Where it starts the halt of a step, it is answered with the step's state as it then stands, HALTING (R175). A step that it takes out
leaves no state to carry, and the reply carries no result, as STEP CANCEL's; DEDUCED, log entry 38. -/
def stepAbort (r : SlotReq) (s : State) : State × Reply :=
  whenNamed (slotInRange r.slot) (fun s =>
    match s.head? r.slot with
    | none => refuse .notFound s
    | some h =>
      match h.state with
      | .queued => accept [] ((s.cancelStep r.slot h).occasion r.slot)
      | .waitingWater => accept [] ((s.cancelStep r.slot h).occasion r.slot)
      | .inProgress => accept (u8 StepState.halting.code) (s.haltHead r.slot)
      | _ => refuse .wrongState s) s

/-! ### Tool life, shop flags, line settings -/

/-- TOOL CHANGE (R96). -/
def toolChange (r : ToolChangeReq) (s : State) : State × Reply :=
  whenNamed (slotInRange r.slot) (fun s =>
    match s.station? r.slot with
    | none => refuse .notFound s
    | some st =>
      if 99999999 < r.toolLife then refuse .badValue s
      else if (st.queue.head?.map (fun h => h.state.isOut)) = some true then refuse .wrongState s
      else
        accept [] (((s.modStation r.slot (fun st => { st with toolLife := r.toolLife, toolLow := false })).reportStation r.slot).occasion r.slot)) s

/-- The flags that a FLAGS SET writes, each with its value (R95). -/
def flagWrites (ws : List (Option Nat)) : List (Nat × Bool) :=
  ((List.range ws.length).zip ws).filterMap (fun e => e.2.map (fun v => (e.1, v == 1)))

/-- Apply the writes of a FLAGS SET (R94, R95). -/
def State.writeFlags (ws : List (Nat × Bool)) (s : State) : State := ws.foldl (fun s e => s.writeFlag e.1 e.2) s

/-- FLAGS SET (R95). DESIGN CHOICE: the sixteen values of the reply stand with no count byte; log entry 53. -/
def flagsSet (r : FlagsSetReq) (s : State) : State × Reply :=
  if !r.writes.all (fun v => optAll v (fun v => (yesNo? v).isSome)) then refuse .badValue s
  else
    let ws := flagWrites r.writes
    let t := s.writeFlags ws
    let discarded := (ws.map (·.1)).filter s.discardsFlag
    accept (t.flagValues.flatMap mark ++ listed u8 t.mirroredSet ++ listed u8 discarded) t

/-- FLAGS QUERY (R95). The sixteen values stand as in the reply of FLAGS SET (log entry 53). -/
def flagsQuery (_ : NoFields) (s : State) : State × Reply := accept (s.flagValues.flatMap mark ++ listed u8 s.mirroredSet) s

/-- LINE SETTINGS (R126). -/
def lineSettings (r : LineSettingsReq) (s : State) : State × Reply :=
  let interval := (r.interval.map (clampTo 20 500)).getD s.slc.pollInterval
  acceptClamped (!optAll r.interval (within 20 500)) (u16 interval ++ mark s.slc.stuck)
    { s with slc := { s.slc with pollInterval := interval } }

/-! ### The commands -/

/-- STATION_DEFINE (R82). -/
def execStationDefine (tag : Byte) (body : Body StationDefineReq) (s : State) : Host.Outcome State Fault Refusal :=
  request 0x40#8 StationDefineReq.read StationDefineReq.write tag body stationDefine s
/-- STATION_REMOVE (R83). -/
def execStationRemove (tag : Byte) (body : Body SlotReq) (s : State) : Host.Outcome State Fault Refusal :=
  request 0x41#8 SlotReq.read SlotReq.write tag body stationRemove s
/-- STATION_QUERY (R83). -/
def execStationQuery (tag : Byte) (body : Body SlotReq) (s : State) : Host.Outcome State Fault Refusal :=
  request 0x42#8 SlotReq.read SlotReq.write tag body stationQuery s
/-- LOAD (R86). -/
def execLoad (tag : Byte) (body : Body LoadReq) (s : State) : Host.Outcome State Fault Refusal :=
  request 0x43#8 LoadReq.read LoadReq.write tag body load s
/-- UNLOAD (R87). The reply carries the whole decode, as SLAB MOVE's (log entry 31). -/
def execUnload (tag : Byte) (body : Body UnloadReq) (s : State) : Host.Outcome State Fault Refusal :=
  request 0x44#8 UnloadReq.read UnloadReq.write tag body unload s
/-- STEP_QUEUE (R91). -/
def execStepQueue (tag : Byte) (body : Body StepQueueReq) (s : State) : Host.Outcome State Fault Refusal :=
  request 0x45#8 StepQueueReq.read StepQueueReq.write tag body stepQueue s
/-- STEP_CANCEL (R92). -/
def execStepCancel (tag : Byte) (body : Body StepCancelReq) (s : State) : Host.Outcome State Fault Refusal :=
  request 0x46#8 StepCancelReq.read StepCancelReq.write tag body stepCancel s
/-- STEP_ABORT (R93). -/
def execStepAbort (tag : Byte) (body : Body SlotReq) (s : State) : Host.Outcome State Fault Refusal :=
  request 0x47#8 SlotReq.read SlotReq.write tag body stepAbort s
/-- STATION_HOLD (R84). -/
def execStationHold (tag : Byte) (body : Body SlotReq) (s : State) : Host.Outcome State Fault Refusal :=
  request 0x48#8 SlotReq.read SlotReq.write tag body stationHold s
/-- STATION_RELEASE (R84). -/
def execStationRelease (tag : Byte) (body : Body SlotReq) (s : State) : Host.Outcome State Fault Refusal :=
  request 0x49#8 SlotReq.read SlotReq.write tag body stationRelease s
/-- FAULT_CLEAR (R85). -/
def execFaultClear (tag : Byte) (body : Body SlotReq) (s : State) : Host.Outcome State Fault Refusal :=
  request 0x4A#8 SlotReq.read SlotReq.write tag body faultClear s
/-- TOOL_CHANGE (R96). -/
def execToolChange (tag : Byte) (body : Body ToolChangeReq) (s : State) : Host.Outcome State Fault Refusal :=
  request 0x4B#8 ToolChangeReq.read ToolChangeReq.write tag body toolChange s
/-- FLAGS_SET (R95). -/
def execFlagsSet (tag : Byte) (body : Body FlagsSetReq) (s : State) : Host.Outcome State Fault Refusal :=
  request 0x4C#8 FlagsSetReq.read FlagsSetReq.write tag body flagsSet s
/-- FLAGS_QUERY (R95). -/
def execFlagsQuery (tag : Byte) (body : Body NoFields) (s : State) : Host.Outcome State Fault Refusal :=
  request 0x4D#8 NoFields.read NoFields.write tag body flagsQuery s
/-- LINE_SETTINGS (R126). -/
def execLineSettings (tag : Byte) (body : Body LineSettingsReq) (s : State) : Host.Outcome State Fault Refusal :=
  request 0x4E#8 LineSettingsReq.read LineSettingsReq.write tag body lineSettings s

end Sys2Proof.Machine
end

