-- ==== Sys2Proof/Machine/LoopRequests.lean ====
section
/-!
DEFINITION. The requests of class 5: the water loop (R129, R130, R135, R136, R144, R147 to R151).
-/
namespace Sys2Proof.Machine

/-- An accepted loop request answers with the loop state as it stands after it (R135). -/
def acceptLoop (s : State) : State × Reply := accept (u8 s.wlc.state.code) s

/-! ### Settings -/

/-- A yes-or-no setting of a request: the given value, or the one it had. -/
def yesOr (given : Option Nat) (old : Bool) : Bool :=
  match given with
  | none => old
  | some v => v == 1

/-- R129, step 1. -/
def loopSetValid (r : LoopSetReq) : Bool :=
  optAll r.intervalIndex (fun i => decide (i ≤ 7)) &&
  optAll r.purgeEnabled (fun v => (yesNo? v).isSome) && optAll r.supply (fun v => (yesNo? v).isSome) &&
  optAll r.prime (fun v => (yesNo? v).isSome) &&
  optAll r.reserve (fun v => decide (v ≤ 20000)) && optAll r.low (fun v => decide (v ≤ 20000)) && optAll r.high (fun v => decide (v ≤ 20000))

/-- The settings as a request would leave them, the clamped ones clamped, the capacity before the recovery margin (R129, steps 2 and 3). -/
def applySettings (r : LoopSetReq) (o : LoopSettings) : LoopSettings :=
  let capacity := (r.capacity.map (clampTo 500 20000)).getD o.capacity
  { pump := (r.pump.map (clampTo 40 400)).getD o.pump
    capacity := capacity
    reserve := r.reserve.getD o.reserve
    low := r.low.getD o.low
    high := r.high.getD o.high
    margin := min (r.margin.getD o.margin) capacity
    purgeEnabled := yesOr r.purgeEnabled o.purgeEnabled
    intervalIndex := r.intervalIndex.getD o.intervalIndex
    duration := (r.duration.map (clampTo 1 8)).getD o.duration
    lateLimit := (r.lateLimit.map (clampTo 5 60)).getD o.lateLimit
    supply := yesOr r.supply o.supply
    prime := yesOr r.prime o.prime
    pulse := (r.pulse.map (clampTo 1 100)).getD o.pulse }

/-- Whether step 2 of R129 changed a value. A kept recovery margin that the new capacity cuts counts (log entry 16). -/
def settingsClamped (r : LoopSetReq) (o : LoopSettings) : Bool :=
  !optAll r.pump (within 40 400) || !optAll r.capacity (within 500 20000) || !optAll r.duration (within 1 8) ||
  !optAll r.lateLimit (within 5 60) || !optAll r.pulse (within 1 100) || (applySettings r o).margin != r.margin.getD o.margin

/-- The law of the settings (R128). -/
def LoopSettings.ordered (x : LoopSettings) : Bool := decide (x.reserve < x.low ∧ x.low < x.high ∧ x.high ≤ x.capacity)

/-- What is done after the writing of a LOOP SET: priming may end, Q is applied to the wait list, the list is served, the due test is made (R129).
DESIGN CHOICE: R129 gives these actions no order, and they are done in the order of its list; log entry 49. -/
def State.afterSettings (r : LoopSetReq) (o : LoopSettings) (s : State) : State :=
  let n := s.wlc.settings
  let s := if s.wlc.state = .priming ∧ (r.purgeEnabled = some 1 ∨ r.supply = some 1) then s.endPriming else s
  let s := { s with wlc := { s.wlc with waitList := s.wlc.waitList.map (fun e => { e with flow := min e.flow n.pump }) } }
  let s := if o.pump < n.pump ∨ r.supply = some 1 then s.serve else s
  if o.purgeEnabled ≠ n.purgeEnabled ∨ o.intervalIndex ≠ n.intervalIndex then s.dueTest.dueEvent else s

/-- LOOP SET (R129). -/
def loopSet (r : LoopSetReq) (s : State) : State × Reply :=
  let o := s.wlc.settings
  let n := applySettings r o
  if !loopSetValid r then refuse .badValue s
  else if !n.ordered then refuse .badValue s
  else if n.pump < s.wlc.flowSum then refuse .inUse s
  else
    let t := State.afterSettings r o { s with wlc := { s.wlc with settings := n } }
    acceptClamped (settingsClamped r o) t.wlc.settings.bytes t

/-- The seconds left in a purge that runs, or in the present phase of the priming cycle (R130). R183 gives seconds no absent value. DESIGN CHOICE: 0 where
neither runs; log entry 35. -/
def Wlc.secondsLeft (w : Wlc) (now : Nat) : Nat :=
  match w.purgeEnd, w.priming with
  | some e, _ => e - now
  | none, some p => p.start + (if p.on then Config.primeOnSeconds else Config.primeOffSeconds) - now
  | none, none => 0

/-- LOOP QUERY (R130). -/
def loopQuery (_ : NoFields) (s : State) : State × Reply :=
  let w := s.wlc
  accept (u8 w.state.code ++ u8 w.deferred.code ++ u8 (HandoverMode.code w.handover) ++ w.settings.bytes ++ u16 w.counts ++ u16 w.volume ++
    mark w.throttled ++ mark w.sumpHigh ++ mark w.due ++ mark w.lateReported ++ u16 w.minutes ++ u32 (w.secondsLeft s.clk.running) ++
    mark w.makeupOpen ++ mark w.pumpRunning ++
    listed (fun e : Nat × Grant => u8 e.1 ++ u8 e.2.flow ++ u8 e.2.rate) w.grants ++
    listed (fun e : WaitEntry => u8 e.slot ++ u8 e.flow) w.waitList) s

/-! ### Starting -/

/-- The loop enters PRIMING, its phase ON from now (R136). -/
def State.startPriming (s : State) : State :=
  (s.changeLoop .priming (fun w => { w with priming := some { on := true, start := s.clk.running } })).occasionAll

/-- LOOP START (R135, R136). -/
def loopStart (_ : NoFields) (s : State) : State × Reply :=
  if s.inFunction 15 = true ∧ (s.point 15).level = true then refuse .plantStopped s
  else if s.wlc.state ≠ .off ∧ s.wlc.state ≠ .stopped then refuse .wrongState s
  else acceptLoop (if s.wlc.settings.prime then s.startPriming else s.enterRunning id)

/-- PRIME END (R136): it also writes the prime setting to no. -/
def primeEnd (_ : NoFields) (s : State) : State × Reply :=
  if s.wlc.state ≠ .priming then refuse .wrongState s
  else acceptLoop (State.endPriming { s with wlc := { s.wlc with settings := { s.wlc.settings with prime := false } } })

/-- PURGE NOW (R144). -/
def purgeNow (_ : NoFields) (s : State) : State × Reply :=
  if s.wlc.state ≠ .running then refuse .wrongState s
  else acceptLoop (State.dueEvent { s with wlc := { s.wlc with due := true } })

/-! ### Standby, resume, handover, reclaim -/

/-- A request deferred to the end of the purge: it is recorded, the wait list is refused back, and each refusal is an occasion at its station (R97,
R140, R145). -/
def State.deferRequest (d : Deferred) (m : Option HandoverMode) (s : State) : State :=
  let slots := s.wlc.waitList.map (fun e => e.slot)
  let t := State.refuseWaiting { s with wlc := { s.wlc with deferred := d, handover := m } }
  slots.foldl (fun s n => s.occasion n) t

/-- The loop goes to STANDBY_WAIT, and on to STANDBY_PURGE where no grant is held (R147). -/
def State.goStandby (s : State) : State :=
  let t := (s.changeLoop .standbyWait id).refuseWaiting
  (if t.wlc.grants = [] then t.changeLoop .standbyPurge (Wlc.beginPurge t.clk.running) else t).occasionAll

/-- LOOP STANDBY (R147). -/
def loopStandby (_ : NoFields) (s : State) : State × Reply :=
  match s.wlc.state with
  | .running => acceptLoop s.goStandby
  | .purgeWait => acceptLoop s.goStandby
  | .purging => if s.wlc.deferred = .none then acceptLoop (s.deferRequest .standby s.wlc.handover) else refuse .wrongState s
  | _ => refuse .wrongState s

/-- LOOP RESUME (R148). -/
def loopResume (_ : NoFields) (s : State) : State × Reply :=
  match s.wlc.state with
  | .standby => acceptLoop (s.changeLoop .wakePurge (Wlc.beginPurge s.clk.running)).occasionAll
  | .standbyWait => acceptLoop (s.enterRunning id)
  | .handoverWait => acceptLoop (s.enterRunning (fun w => { w with handover := none }))
  | .standbyPurge =>
    if s.wlc.deferred = .none then acceptLoop { s with wlc := { s.wlc with deferred := .resume } } else refuse .wrongState s
  | .purging =>
    if s.wlc.deferred = .standby ∨ s.wlc.deferred = .handover then
      acceptLoop { s with wlc := { s.wlc with deferred := .none, handover := none } }
    else refuse .wrongState s
  | _ => refuse .wrongState s

/-- The loop goes to HANDOVER_WAIT in a mode, and on where no grant is held (R149). -/
def State.goHandover (m : HandoverMode) (s : State) : State :=
  let t := (s.changeLoop .handoverWait (fun w => { w with handover := some m })).refuseWaiting
  (if t.wlc.grants = [] then t.handoverDrained else t).occasionAll

/-- LOOP HANDOVER (R149). -/
def loopHandover (r : LoopHandoverReq) (s : State) : State × Reply :=
  match HandoverMode.ofCode? r.mode with
  | none => refuse .badValue s
  | some m =>
    match s.wlc.state with
    | .running => acceptLoop (s.goHandover m)
    | .purgeWait => acceptLoop (s.goHandover m)
    | .standby => acceptLoop (State.enterManual { s with wlc := { s.wlc with handover := some m } }).occasionAll
    | .purging => if s.wlc.deferred = .none then acceptLoop (s.deferRequest .handover (some m)) else refuse .wrongState s
    | _ => refuse .wrongState s

/-- LOOP RECLAIM (R151). -/
def loopReclaim (_ : NoFields) (s : State) : State × Reply :=
  if s.wlc.state ≠ .manual then refuse .wrongState s
  else if s.wlc.purgeEnd.isSome then acceptLoop (s.changeLoop .purging (fun w => { w with handover := none })).occasionAll
  else acceptLoop (s.enterRunning (fun w => { w with handover := none }))

/-! ### The commands -/

/-- LOOP_SET (R129). -/
def execLoopSet (tag : Byte) (body : Body LoopSetReq) (s : State) : Host.Outcome State Fault Refusal :=
  request 0x50#8 LoopSetReq.read LoopSetReq.write tag body loopSet s
/-- LOOP_QUERY (R130). -/
def execLoopQuery (tag : Byte) (body : Body NoFields) (s : State) : Host.Outcome State Fault Refusal :=
  request 0x51#8 NoFields.read NoFields.write tag body loopQuery s
/-- LOOP_START (R136). -/
def execLoopStart (tag : Byte) (body : Body NoFields) (s : State) : Host.Outcome State Fault Refusal :=
  request 0x52#8 NoFields.read NoFields.write tag body loopStart s
/-- PRIME_END (R136). -/
def execPrimeEnd (tag : Byte) (body : Body NoFields) (s : State) : Host.Outcome State Fault Refusal :=
  request 0x53#8 NoFields.read NoFields.write tag body primeEnd s
/-- PURGE_NOW (R144). -/
def execPurgeNow (tag : Byte) (body : Body NoFields) (s : State) : Host.Outcome State Fault Refusal :=
  request 0x54#8 NoFields.read NoFields.write tag body purgeNow s
/-- LOOP_STANDBY (R147). -/
def execLoopStandby (tag : Byte) (body : Body NoFields) (s : State) : Host.Outcome State Fault Refusal :=
  request 0x55#8 NoFields.read NoFields.write tag body loopStandby s
/-- LOOP_RESUME (R148). -/
def execLoopResume (tag : Byte) (body : Body NoFields) (s : State) : Host.Outcome State Fault Refusal :=
  request 0x56#8 NoFields.read NoFields.write tag body loopResume s
/-- LOOP_HANDOVER (R149). -/
def execLoopHandover (tag : Byte) (body : Body LoopHandoverReq) (s : State) : Host.Outcome State Fault Refusal :=
  request 0x57#8 LoopHandoverReq.read LoopHandoverReq.write tag body loopHandover s
/-- LOOP_RECLAIM (R151). -/
def execLoopReclaim (tag : Byte) (body : Body NoFields) (s : State) : Host.Outcome State Fault Refusal :=
  request 0x58#8 NoFields.read NoFields.write tag body loopReclaim s

end Sys2Proof.Machine
end

