-- ==== Sys2Proof/Machine/PlantRequests.lean ====
section
/-!
DEFINITION. The requests of class 6 (the plant port: R160 to R164, R167) and class 7 (the shop: R179 to R181).
-/
namespace Sys2Proof.Machine

/-! ### Latches and reading -/

/-- Write a point's latch; a point that drives its latch takes the value at once (R160). -/
def State.writeLatch (i : Nat) (v : Bool) (s : State) : State :=
  (s.setPoint i { s.point i with latch := v }).refreshPoint i

/-- BANK WRITE (R160): the changes are made in ascending position. -/
def bankWrite (r : BankWriteReq) (s : State) : State × Reply :=
  if 3 < r.bank ∨ r.latches.length ≠ 8 ∨ r.latches.any (fun v => (yesNo? v).isNone) then refuse .badValue s
  else accept [] (((List.range 8).zip r.latches).foldl (fun s e => s.writeLatch (8 * r.bank + e.1) (e.2 == 1)) s)

/-- POINT SET (R160). -/
def pointSet (r : PointSetReq) (s : State) : State × Reply :=
  match decide (r.point < 32), yesNo? r.value with
  | true, some v => accept [] (s.writeLatch r.point v)
  | _, _ => refuse .badValue s

/-- What BANK READ returns of a point (R161). -/
def State.pointBytes (s : State) (i : Nat) : List Byte :=
  let p := s.point i
  u8 p.mode.code ++ mark p.latch ++ mark p.invert ++ u8 p.watch.code ++ mark p.level ++ u8 (s.driveSource i).code

/-- BANK READ (R161). R161 does not say whether its eight points are a list, which R185 has carried behind a count byte, and 10.3 does not lay the reply out.
DESIGN CHOICE: the eight entries, always as many, with no count byte; log entry 53. -/
def bankRead (r : BankReadReq) (s : State) : State × Reply :=
  if 3 < r.bank then refuse .badValue s
  else accept ((List.range 8).flatMap (fun k => s.pointBytes (8 * r.bank + k)) ++ u16 s.wlc.counts) s

/-! ### Modes, invert, watch -/

/-- Whether the function of a point is in use (R162). -/
def State.functionInUse (s : State) (i : Nat) : Bool :=
  if i < 8 then s.wlc.grants.has (i + 1)
  else if i = 8 then s.wlc.pumpRunning
  else if i = 9 ∨ i = 11 then s.wlc.purgeEnd.isSome
  else if i = 10 then s.wlc.makeupOpen
  else if i = 15 then decide (s.wlc.state ≠ .off ∧ s.wlc.state ≠ .stopped)
  else false

/-- What entering FUNCTION does beyond the change of drive: an active B4 to B7 counts as becoming active, Cn is copied into its flag (R163). -/
def State.enterFunction (i : Nat) (s : State) : State :=
  let level := (s.point i).level
  if level = true ∨ 16 ≤ i then s.handInput i level else s

/-- Refuse back the wait-list entry of a station whose valve point leaves FUNCTION mode, with NO_VALVE. Answers whether it was the head (R140,
R163). -/
def State.refuseValve (n : Nat) (s : State) : State × Bool :=
  if s.wlc.waitList.any (fun e => e.slot == n) then
    let t := s.returnHead n .noValve
    ({ t with wlc := { t.wlc with waitList := t.wlc.waitList.filter (fun e => e.slot != n) } },
     (s.wlc.waitList.head?.map (fun e => e.slot)) == some n)
  else (s, false)

/-- Write a point's mode, with the change of drive that follows (R157, R159). -/
def State.writeMode (i : Nat) (m : PointMode) (s : State) : State := (s.setPoint i { s.point i with mode := m }).refreshPoint i

/-- What leaving FUNCTION does beyond the change of drive: B2 clears the makeup-open mark, B6 the sump-high mark (R163). -/
def State.leaveFunction (i : Nat) (s : State) : State :=
  if i = 10 then { s with wlc := { s.wlc with makeupOpen := false } }
  else if i = 14 then s.setSumpHigh false
  else s

/-- An accepted change of mode (R163). For a bank A point that leaves FUNCTION the rule has the wait-list entry refused back first and the list served
after it. DESIGN CHOICE: the point's own edge comes between them, the serving before station n's examination, and the refusal and the change of mode
are one occasion for it; log entry 39. -/
def State.changeMode (i : Nat) (m : PointMode) (s : State) : State :=
  let leaving := s.inFunction i
  let r := if i < 8 ∧ leaving = true then s.refuseValve (i + 1) else (s, false)
  let t := r.1.writeMode i m
  let t := if m = .function then t.enterFunction i else if leaving then t.leaveFunction i else t
  let t := if r.2 then t.serve else t
  if i < 8 then t.occasion (i + 1) else t

/-- POINT MODE (R162, R163). -/
def pointMode (r : PointModeReq) (s : State) : State × Reply :=
  match decide (r.point < 32), PointMode.ofCode? r.mode with
  | true, some m =>
    if m = .function ∧ 24 ≤ r.point then refuse .badValue s
    else if (s.point r.point).mode = m then accept [] s
    else if s.inFunction r.point = true ∧ s.functionInUse r.point = true then refuse .inUse s
    else accept [] (s.changeMode r.point m)
  | _, _ => refuse .badValue s

/-- POINT INVERT (R164): on a point that does not drive the level flips, with all its consequences; on one that drives the level stands, and with it the
wire changes (`Point.wire`). -/
def pointInvert (r : PointInvertReq) (s : State) : State × Reply :=
  match decide (r.point < 32), yesNo? r.setting with
  | true, some v => accept [] (State.followPoint r.point (s.setPoint r.point { s.point r.point with invert := v }))
  | _, _ => refuse .badValue s

/-- EDGE WATCH (R167). -/
def edgeWatch (r : EdgeWatchReq) (s : State) : State × Reply :=
  match decide (r.point < 32), Watch.ofCode? r.watch with
  | true, some w => accept [] (s.setPoint r.point { s.point r.point with watch := w })
  | _, _ => refuse .badValue s

/-! ### Shop requests -/

/-- SHOP STATUS (R180). -/
def shopStatus (_ : NoFields) (s : State) : State × Reply :=
  accept (u32 s.clk.shop ++ u32 s.clk.running ++ u8 s.wlc.state.code ++ u16 s.stk.slabs.length ++ u8 s.job.jobs.length ++
    u8 s.dsp.stations.length ++ u8 s.lnk.reportCount ++ u16 s.lnk.dropped) s

/-- CLOCK SET (R179). -/
def clockSet (r : ClockSetReq) (s : State) : State × Reply :=
  if Config.wordCap < r.value then refuse .badValue s
  else accept (u32 r.value) { s with clk := { s.clk with shop := r.value } }

/-- RESTART (R181): the restart takes effect when its reply has been sent; until then no further request is taken, and those waiting are discarded. -/
def restart (_ : NoFields) (s : State) : State × Reply :=
  accept [] { s with lnk := { s.lnk with requests := [], restartPending := true } }

/-! ### The commands -/

/-- BANK_WRITE (R160). -/
def execBankWrite (tag : Byte) (body : Body BankWriteReq) (s : State) : Host.Outcome State Fault Refusal :=
  request 0x60#8 BankWriteReq.read BankWriteReq.write tag body bankWrite s
/-- POINT_SET (R160). -/
def execPointSet (tag : Byte) (body : Body PointSetReq) (s : State) : Host.Outcome State Fault Refusal :=
  request 0x61#8 PointSetReq.read PointSetReq.write tag body pointSet s
/-- BANK_READ (R161). -/
def execBankRead (tag : Byte) (body : Body BankReadReq) (s : State) : Host.Outcome State Fault Refusal :=
  request 0x62#8 BankReadReq.read BankReadReq.write tag body bankRead s
/-- POINT_MODE (R162, R163). -/
def execPointMode (tag : Byte) (body : Body PointModeReq) (s : State) : Host.Outcome State Fault Refusal :=
  request 0x63#8 PointModeReq.read PointModeReq.write tag body pointMode s
/-- POINT_INVERT (R164). -/
def execPointInvert (tag : Byte) (body : Body PointInvertReq) (s : State) : Host.Outcome State Fault Refusal :=
  request 0x64#8 PointInvertReq.read PointInvertReq.write tag body pointInvert s
/-- EDGE_WATCH (R167). -/
def execEdgeWatch (tag : Byte) (body : Body EdgeWatchReq) (s : State) : Host.Outcome State Fault Refusal :=
  request 0x65#8 EdgeWatchReq.read EdgeWatchReq.write tag body edgeWatch s
/-- SHOP_STATUS (R180). -/
def execShopStatus (tag : Byte) (body : Body NoFields) (s : State) : Host.Outcome State Fault Refusal :=
  request 0x70#8 NoFields.read NoFields.write tag body shopStatus s
/-- CLOCK_SET (R179). -/
def execClockSet (tag : Byte) (body : Body ClockSetReq) (s : State) : Host.Outcome State Fault Refusal :=
  request 0x71#8 ClockSetReq.read ClockSetReq.write tag body clockSet s
/-- RESTART (R181). -/
def execRestart (tag : Byte) (body : Body NoFields) (s : State) : Host.Outcome State Fault Refusal :=
  request 0x72#8 NoFields.read NoFields.write tag body restart s

end Sys2Proof.Machine
end

