-- ==== Sys2Proof/Machine/Dispatch.lean ====
section
/-!
DEFINITION. The dispatch: each command to its meaning.
-/
namespace Sys2Proof.Machine

/-- The effect of a command on everything but the queue of waiting commands. -/
def exec (i : Instr) (s : State) : Host.Outcome State Fault Refusal :=
  match i with
  | .powerOn wires => Sys2Proof.Machine.execPowerOn wires s
  | .warmRestart => Sys2Proof.Machine.execWarmRestart s
  | .secondTick => Sys2Proof.Machine.execSecondTick s
  | .levelGaugeSample counts => Sys2Proof.Machine.execLevelGaugeSample counts s
  | .runningMinutes => Sys2Proof.Machine.execRunningMinutes s
  | .primingPhase => Sys2Proof.Machine.execPrimingPhase s
  | .purgeComplete => Sys2Proof.Machine.execPurgeComplete s
  | .purgeLate => Sys2Proof.Machine.execPurgeLate s
  | .pollTimerExpiry => Sys2Proof.Machine.execPollTimerExpiry s
  | .lineIdle rival => Sys2Proof.Machine.execLineIdle rival s
  | .openingMark header => Sys2Proof.Machine.execOpeningMark header s
  | .poll outcome => Sys2Proof.Machine.execPoll outcome s
  | .stepOffer outcome => Sys2Proof.Machine.execStepOffer outcome s
  | .flowSet outcome => Sys2Proof.Machine.execFlowSet outcome s
  | .halt outcome => Sys2Proof.Machine.execHalt outcome s
  | .state frame => Sys2Proof.Machine.execState frame s
  | .alert frame => Sys2Proof.Machine.execAlert frame s
  | .answerWindowTimeout => Sys2Proof.Machine.execAnswerWindowTimeout s
  | .holdLimit header => Sys2Proof.Machine.execHoldLimit header s
  | .frameTimeLimit header => Sys2Proof.Machine.execFrameTimeLimit header s
  | .lineStuck held => Sys2Proof.Machine.execLineStuck held s
  | .pointLevelChange point high => Sys2Proof.Machine.execPointLevelChange point high s
  | .hostFrameReceive bytes => Sys2Proof.Machine.execHostFrameReceive bytes s
  | .interByteTimeout => Sys2Proof.Machine.execInterByteTimeout s
  | .frameSent => Sys2Proof.Machine.execFrameSent s
  | .unknownKind kind tag body => Sys2Proof.Machine.execUnknownKind kind tag body s
  | .slabReceive tag body => Sys2Proof.Machine.execSlabReceive tag body s
  | .slabDefect tag body => Sys2Proof.Machine.execSlabDefect tag body s
  | .slabRelease tag body => Sys2Proof.Machine.execSlabRelease tag body s
  | .slabMove tag body => Sys2Proof.Machine.execSlabMove tag body s
  | .slabQuery tag body => Sys2Proof.Machine.execSlabQuery tag body s
  | .slabList tag body => Sys2Proof.Machine.execSlabList tag body s
  | .locate tag body => Sys2Proof.Machine.execLocate tag body s
  | .zoneSet tag body => Sys2Proof.Machine.execZoneSet tag body s
  | .defaultZoneSet tag body => Sys2Proof.Machine.execDefaultZoneSet tag body s
  | .slabScrap tag body => Sys2Proof.Machine.execSlabScrap tag body s
  | .slabClose tag body => Sys2Proof.Machine.execSlabClose tag body s
  | .planSet tag body => Sys2Proof.Machine.execPlanSet tag body s
  | .place tag body => Sys2Proof.Machine.execPlace tag body s
  | .placeAuto tag body => Sys2Proof.Machine.execPlaceAuto tag body s
  | .unplace tag body => Sys2Proof.Machine.execUnplace tag body s
  | .planQuery tag body => Sys2Proof.Machine.execPlanQuery tag body s
  | .resolve tag body => Sys2Proof.Machine.execResolve tag body s
  | .jobOpen tag body => Sys2Proof.Machine.execJobOpen tag body s
  | .jobSet tag body => Sys2Proof.Machine.execJobSet tag body s
  | .jobList tag body => Sys2Proof.Machine.execJobList tag body s
  | .jobQuery tag body => Sys2Proof.Machine.execJobQuery tag body s
  | .pieceAdd tag body => Sys2Proof.Machine.execPieceAdd tag body s
  | .pieceRemove tag body => Sys2Proof.Machine.execPieceRemove tag body s
  | .jobHold tag body => Sys2Proof.Machine.execJobHold tag body s
  | .jobResume tag body => Sys2Proof.Machine.execJobResume tag body s
  | .jobClose tag body => Sys2Proof.Machine.execJobClose tag body s
  | .jobDiscard tag body => Sys2Proof.Machine.execJobDiscard tag body s
  | .ratesetSet tag body => Sys2Proof.Machine.execRatesetSet tag body s
  | .ratesetQuery tag body => Sys2Proof.Machine.execRatesetQuery tag body s
  | .stationDefine tag body => Sys2Proof.Machine.execStationDefine tag body s
  | .stationRemove tag body => Sys2Proof.Machine.execStationRemove tag body s
  | .stationQuery tag body => Sys2Proof.Machine.execStationQuery tag body s
  | .load tag body => Sys2Proof.Machine.execLoad tag body s
  | .unload tag body => Sys2Proof.Machine.execUnload tag body s
  | .stepQueue tag body => Sys2Proof.Machine.execStepQueue tag body s
  | .stepCancel tag body => Sys2Proof.Machine.execStepCancel tag body s
  | .stepAbort tag body => Sys2Proof.Machine.execStepAbort tag body s
  | .stationHold tag body => Sys2Proof.Machine.execStationHold tag body s
  | .stationRelease tag body => Sys2Proof.Machine.execStationRelease tag body s
  | .faultClear tag body => Sys2Proof.Machine.execFaultClear tag body s
  | .toolChange tag body => Sys2Proof.Machine.execToolChange tag body s
  | .flagsSet tag body => Sys2Proof.Machine.execFlagsSet tag body s
  | .flagsQuery tag body => Sys2Proof.Machine.execFlagsQuery tag body s
  | .lineSettings tag body => Sys2Proof.Machine.execLineSettings tag body s
  | .loopSet tag body => Sys2Proof.Machine.execLoopSet tag body s
  | .loopQuery tag body => Sys2Proof.Machine.execLoopQuery tag body s
  | .loopStart tag body => Sys2Proof.Machine.execLoopStart tag body s
  | .primeEnd tag body => Sys2Proof.Machine.execPrimeEnd tag body s
  | .purgeNow tag body => Sys2Proof.Machine.execPurgeNow tag body s
  | .loopStandby tag body => Sys2Proof.Machine.execLoopStandby tag body s
  | .loopResume tag body => Sys2Proof.Machine.execLoopResume tag body s
  | .loopHandover tag body => Sys2Proof.Machine.execLoopHandover tag body s
  | .loopReclaim tag body => Sys2Proof.Machine.execLoopReclaim tag body s
  | .bankWrite tag body => Sys2Proof.Machine.execBankWrite tag body s
  | .pointSet tag body => Sys2Proof.Machine.execPointSet tag body s
  | .bankRead tag body => Sys2Proof.Machine.execBankRead tag body s
  | .pointMode tag body => Sys2Proof.Machine.execPointMode tag body s
  | .pointInvert tag body => Sys2Proof.Machine.execPointInvert tag body s
  | .edgeWatch tag body => Sys2Proof.Machine.execEdgeWatch tag body s
  | .shopStatus tag body => Sys2Proof.Machine.execShopStatus tag body s
  | .clockSet tag body => Sys2Proof.Machine.execClockSet tag body s
  | .restart tag body => Sys2Proof.Machine.execRestart tag body s
  | .shopAccount tag body => Sys2Proof.Machine.execShopAccount tag body s

end Sys2Proof.Machine
end

