-- ==== Sys2Proof/WellFormed.lean ====
section
/-!
DEFINITION. Well-formed commands: those that the links can carry. A field lies in the bytes its type gives it (R183), a body is at most 250 bytes long on
the host link (R171) and at most 16 on the station line (R113), a frame of kind ALERT stands in the row ALERT, one of any other kind in the row STATE
(log entry 29), a data wire that is not held low needs no clock pulse (R125), and a request of an unknown kind has a request's kind that names no request (R174).
A field out of its rule's range is well formed: the part itself tests that (R175, R176).
-/
namespace Sys2Proof

open Sys2Proof.Machine

/-- Whether every field that is present lies in its bytes (R183). -/
def fieldsFit (l : List (Nat × Option Nat)) : Bool := l.all (fun f => optAll f.2 (fun v => decide (v < 256 ^ f.1)))

/-- A request body the host link can carry: fields that fit, or at most 250 bytes (R171, R183). -/
def Body.fits {α : Type} (layout : α → List (Nat × Option Nat)) (shape : α → Bool) : Body α → Bool
  | .fields f => fieldsFit (layout f) && shape f
  | .raw bs => decide (bs.length ≤ Config.maxBody)

/-- A station's frame: its fields fit, or at most 16 body bytes (R113, R187). -/
def StationFrame.wellFormed (f : StationFrame) : Bool :=
  match f.body with
  | .fields r => fieldsFit r.layout
  | .raw bs => decide (bs.length ≤ 16)

/-- Whether a command is well formed. -/
def Instr.wellFormed : Instr → Bool
  | .powerOn _ => true
  | .warmRestart => true
  | .secondTick => true
  | .levelGaugeSample _ => true
  | .runningMinutes => true
  | .primingPhase => true
  | .purgeComplete => true
  | .purgeLate => true
  | .pollTimerExpiry => true
  | .lineIdle _ => true
  | .openingMark _ => true
  | .poll _ => true
  | .stepOffer _ => true
  | .flowSet _ => true
  | .halt _ => true
  | .state frame => frame.kind != alertKind && frame.wellFormed
  | .alert frame => frame.kind == alertKind && frame.wellFormed
  | .answerWindowTimeout => true
  | .holdLimit _ => true
  | .frameTimeLimit _ => true
  | .lineStuck held => held.wires != .clock || held.released == some 0
  | .pointLevelChange _ _ => true
  | .hostFrameReceive _ => true
  | .interByteTimeout => true
  | .frameSent => true
  | .unknownKind kind _ body =>
    isRequestKind kind.toNat && !namesRequest kind.toNat && decide (body.length ≤ Config.maxBody)
  | .slabReceive _ body => body.fits SlabReceiveReq.layout (fun _ => true)
  | .slabDefect _ body => body.fits SlabDefectReq.layout (fun _ => true)
  | .slabRelease _ body => body.fits SlabIdReq.layout (fun _ => true)
  | .slabMove _ body => body.fits SlabMoveReq.layout (fun _ => true)
  | .slabQuery _ body => body.fits SlabIdReq.layout (fun _ => true)
  | .slabList _ body => body.fits SlabListReq.layout (fun _ => true)
  | .locate _ body => body.fits LocateReq.layout (fun _ => true)
  | .zoneSet _ body => body.fits ZoneSetReq.layout (fun _ => true)
  | .defaultZoneSet _ body => body.fits DefaultZoneSetReq.layout (fun _ => true)
  | .slabScrap _ body => body.fits SlabIdReq.layout (fun _ => true)
  | .slabClose _ body => body.fits SlabCloseReq.layout (fun _ => true)
  | .planSet _ body => body.fits PlanSetReq.layout (fun _ => true)
  | .place _ body => body.fits PlaceReq.layout (fun _ => true)
  | .placeAuto _ body => body.fits PlaceAutoReq.layout (fun _ => true)
  | .unplace _ body => body.fits PieceReq.layout (fun _ => true)
  | .planQuery _ body => body.fits PlanQueryReq.layout (fun _ => true)
  | .resolve _ body => body.fits ResolveReq.layout (fun _ => true)
  | .jobOpen _ body => body.fits JobOpenReq.layout (fun _ => true)
  | .jobSet _ body => body.fits JobSetReq.layout (fun _ => true)
  | .jobList _ body => body.fits JobListReq.layout (fun _ => true)
  | .jobQuery _ body => body.fits JobQueryReq.layout (fun _ => true)
  | .pieceAdd _ body => body.fits PieceAddReq.layout (fun _ => true)
  | .pieceRemove _ body => body.fits PieceReq.layout (fun _ => true)
  | .jobHold _ body => body.fits JobReq.layout (fun _ => true)
  | .jobResume _ body => body.fits JobReq.layout (fun _ => true)
  | .jobClose _ body => body.fits JobReq.layout (fun _ => true)
  | .jobDiscard _ body => body.fits JobReq.layout (fun _ => true)
  | .ratesetSet _ body => body.fits RatesetSetReq.layout (fun _ => true)
  | .ratesetQuery _ body => body.fits RatesetQueryReq.layout (fun _ => true)
  | .stationDefine _ body => body.fits StationDefineReq.layout (fun _ => true)
  | .stationRemove _ body => body.fits SlotReq.layout (fun _ => true)
  | .stationQuery _ body => body.fits SlotReq.layout (fun _ => true)
  | .load _ body => body.fits LoadReq.layout (fun _ => true)
  | .unload _ body => body.fits UnloadReq.layout (fun _ => true)
  | .stepQueue _ body => body.fits StepQueueReq.layout (fun _ => true)
  | .stepCancel _ body => body.fits StepCancelReq.layout (fun _ => true)
  | .stepAbort _ body => body.fits SlotReq.layout (fun _ => true)
  | .stationHold _ body => body.fits SlotReq.layout (fun _ => true)
  | .stationRelease _ body => body.fits SlotReq.layout (fun _ => true)
  | .faultClear _ body => body.fits SlotReq.layout (fun _ => true)
  | .toolChange _ body => body.fits ToolChangeReq.layout (fun _ => true)
  | .flagsSet _ body => body.fits FlagsSetReq.layout (fun f => f.writes.length == 16)
  | .flagsQuery _ body => body.fits (fun _ => []) (fun _ => true)
  | .lineSettings _ body => body.fits LineSettingsReq.layout (fun _ => true)
  | .loopSet _ body => body.fits LoopSetReq.layout (fun _ => true)
  | .loopQuery _ body => body.fits (fun _ => []) (fun _ => true)
  | .loopStart _ body => body.fits (fun _ => []) (fun _ => true)
  | .primeEnd _ body => body.fits (fun _ => []) (fun _ => true)
  | .purgeNow _ body => body.fits (fun _ => []) (fun _ => true)
  | .loopStandby _ body => body.fits (fun _ => []) (fun _ => true)
  | .loopResume _ body => body.fits (fun _ => []) (fun _ => true)
  | .loopHandover _ body => body.fits LoopHandoverReq.layout (fun _ => true)
  | .loopReclaim _ body => body.fits (fun _ => []) (fun _ => true)
  | .bankWrite _ body => body.fits BankWriteReq.layout (fun f => f.latches.length == 8)
  | .pointSet _ body => body.fits PointSetReq.layout (fun _ => true)
  | .bankRead _ body => body.fits BankReadReq.layout (fun _ => true)
  | .pointMode _ body => body.fits PointModeReq.layout (fun _ => true)
  | .pointInvert _ body => body.fits PointInvertReq.layout (fun _ => true)
  | .edgeWatch _ body => body.fits EdgeWatchReq.layout (fun _ => true)
  | .shopStatus _ body => body.fits (fun _ => []) (fun _ => true)
  | .clockSet _ body => body.fits ClockSetReq.layout (fun _ => true)
  | .restart _ body => body.fits (fun _ => []) (fun _ => true)
  | .shopAccount _ body => body.fits ShopAccountReq.layout (fun _ => true)

/-! ### The two forms of a body, and the frame of a request -/

/-- The same body as its bytes on the link (R185). -/
def Body.asRaw {α : Type} (write : α → List Byte) (b : Body α) : Body α := .raw (b.bytes write)

/-- The same command with its body given as bytes. -/
def Instr.asRaw : Instr → Instr
  | .powerOn wires => .powerOn wires
  | .warmRestart => .warmRestart
  | .secondTick => .secondTick
  | .levelGaugeSample counts => .levelGaugeSample counts
  | .runningMinutes => .runningMinutes
  | .primingPhase => .primingPhase
  | .purgeComplete => .purgeComplete
  | .purgeLate => .purgeLate
  | .pollTimerExpiry => .pollTimerExpiry
  | .lineIdle rival => .lineIdle rival
  | .openingMark header => .openingMark header
  | .poll outcome => .poll outcome
  | .stepOffer outcome => .stepOffer outcome
  | .flowSet outcome => .flowSet outcome
  | .halt outcome => .halt outcome
  | .state frame => .state { frame with body := frame.body.asRaw LineReportReq.write }
  | .alert frame => .alert { frame with body := frame.body.asRaw LineReportReq.write }
  | .answerWindowTimeout => .answerWindowTimeout
  | .holdLimit header => .holdLimit header
  | .frameTimeLimit header => .frameTimeLimit header
  | .lineStuck held => .lineStuck held
  | .pointLevelChange point high => .pointLevelChange point high
  | .hostFrameReceive bytes => .hostFrameReceive bytes
  | .interByteTimeout => .interByteTimeout
  | .frameSent => .frameSent
  | .unknownKind kind tag body => .unknownKind kind tag body
  | .slabReceive tag body => .slabReceive tag (body.asRaw SlabReceiveReq.write)
  | .slabDefect tag body => .slabDefect tag (body.asRaw SlabDefectReq.write)
  | .slabRelease tag body => .slabRelease tag (body.asRaw SlabIdReq.write)
  | .slabMove tag body => .slabMove tag (body.asRaw SlabMoveReq.write)
  | .slabQuery tag body => .slabQuery tag (body.asRaw SlabIdReq.write)
  | .slabList tag body => .slabList tag (body.asRaw SlabListReq.write)
  | .locate tag body => .locate tag (body.asRaw LocateReq.write)
  | .zoneSet tag body => .zoneSet tag (body.asRaw ZoneSetReq.write)
  | .defaultZoneSet tag body => .defaultZoneSet tag (body.asRaw DefaultZoneSetReq.write)
  | .slabScrap tag body => .slabScrap tag (body.asRaw SlabIdReq.write)
  | .slabClose tag body => .slabClose tag (body.asRaw SlabCloseReq.write)
  | .planSet tag body => .planSet tag (body.asRaw PlanSetReq.write)
  | .place tag body => .place tag (body.asRaw PlaceReq.write)
  | .placeAuto tag body => .placeAuto tag (body.asRaw PlaceAutoReq.write)
  | .unplace tag body => .unplace tag (body.asRaw PieceReq.write)
  | .planQuery tag body => .planQuery tag (body.asRaw PlanQueryReq.write)
  | .resolve tag body => .resolve tag (body.asRaw ResolveReq.write)
  | .jobOpen tag body => .jobOpen tag (body.asRaw JobOpenReq.write)
  | .jobSet tag body => .jobSet tag (body.asRaw JobSetReq.write)
  | .jobList tag body => .jobList tag (body.asRaw JobListReq.write)
  | .jobQuery tag body => .jobQuery tag (body.asRaw JobQueryReq.write)
  | .pieceAdd tag body => .pieceAdd tag (body.asRaw PieceAddReq.write)
  | .pieceRemove tag body => .pieceRemove tag (body.asRaw PieceReq.write)
  | .jobHold tag body => .jobHold tag (body.asRaw JobReq.write)
  | .jobResume tag body => .jobResume tag (body.asRaw JobReq.write)
  | .jobClose tag body => .jobClose tag (body.asRaw JobReq.write)
  | .jobDiscard tag body => .jobDiscard tag (body.asRaw JobReq.write)
  | .ratesetSet tag body => .ratesetSet tag (body.asRaw RatesetSetReq.write)
  | .ratesetQuery tag body => .ratesetQuery tag (body.asRaw RatesetQueryReq.write)
  | .stationDefine tag body => .stationDefine tag (body.asRaw StationDefineReq.write)
  | .stationRemove tag body => .stationRemove tag (body.asRaw SlotReq.write)
  | .stationQuery tag body => .stationQuery tag (body.asRaw SlotReq.write)
  | .load tag body => .load tag (body.asRaw LoadReq.write)
  | .unload tag body => .unload tag (body.asRaw UnloadReq.write)
  | .stepQueue tag body => .stepQueue tag (body.asRaw StepQueueReq.write)
  | .stepCancel tag body => .stepCancel tag (body.asRaw StepCancelReq.write)
  | .stepAbort tag body => .stepAbort tag (body.asRaw SlotReq.write)
  | .stationHold tag body => .stationHold tag (body.asRaw SlotReq.write)
  | .stationRelease tag body => .stationRelease tag (body.asRaw SlotReq.write)
  | .faultClear tag body => .faultClear tag (body.asRaw SlotReq.write)
  | .toolChange tag body => .toolChange tag (body.asRaw ToolChangeReq.write)
  | .flagsSet tag body => .flagsSet tag (body.asRaw FlagsSetReq.write)
  | .flagsQuery tag body => .flagsQuery tag (body.asRaw NoFields.write)
  | .lineSettings tag body => .lineSettings tag (body.asRaw LineSettingsReq.write)
  | .loopSet tag body => .loopSet tag (body.asRaw LoopSetReq.write)
  | .loopQuery tag body => .loopQuery tag (body.asRaw NoFields.write)
  | .loopStart tag body => .loopStart tag (body.asRaw NoFields.write)
  | .primeEnd tag body => .primeEnd tag (body.asRaw NoFields.write)
  | .purgeNow tag body => .purgeNow tag (body.asRaw NoFields.write)
  | .loopStandby tag body => .loopStandby tag (body.asRaw NoFields.write)
  | .loopResume tag body => .loopResume tag (body.asRaw NoFields.write)
  | .loopHandover tag body => .loopHandover tag (body.asRaw LoopHandoverReq.write)
  | .loopReclaim tag body => .loopReclaim tag (body.asRaw NoFields.write)
  | .bankWrite tag body => .bankWrite tag (body.asRaw BankWriteReq.write)
  | .pointSet tag body => .pointSet tag (body.asRaw PointSetReq.write)
  | .bankRead tag body => .bankRead tag (body.asRaw BankReadReq.write)
  | .pointMode tag body => .pointMode tag (body.asRaw PointModeReq.write)
  | .pointInvert tag body => .pointInvert tag (body.asRaw PointInvertReq.write)
  | .edgeWatch tag body => .edgeWatch tag (body.asRaw EdgeWatchReq.write)
  | .shopStatus tag body => .shopStatus tag (body.asRaw NoFields.write)
  | .clockSet tag body => .clockSet tag (body.asRaw ClockSetReq.write)
  | .restart tag body => .restart tag (body.asRaw NoFields.write)
  | .shopAccount tag body => .shopAccount tag (body.asRaw ShopAccountReq.write)

/-- The request frame that a request's row stands for (R173, R184); none for an event. -/
def Instr.frame? : Instr → Option ReqFrame
  | .powerOn _ => none
  | .warmRestart => none
  | .secondTick => none
  | .levelGaugeSample _ => none
  | .runningMinutes => none
  | .primingPhase => none
  | .purgeComplete => none
  | .purgeLate => none
  | .pollTimerExpiry => none
  | .lineIdle _ => none
  | .openingMark _ => none
  | .poll _ => none
  | .stepOffer _ => none
  | .flowSet _ => none
  | .halt _ => none
  | .state _ => none
  | .alert _ => none
  | .answerWindowTimeout => none
  | .holdLimit _ => none
  | .frameTimeLimit _ => none
  | .lineStuck _ => none
  | .pointLevelChange _ _ => none
  | .hostFrameReceive _ => none
  | .interByteTimeout => none
  | .frameSent => none
  | .unknownKind kind tag body =>
    if isRequestKind kind.toNat && !namesRequest kind.toNat then some { kind := kind, tag := tag, body := body } else none
  | .slabReceive tag body => some { kind := 0x10#8, tag := tag, body := body.bytes SlabReceiveReq.write }
  | .slabDefect tag body => some { kind := 0x11#8, tag := tag, body := body.bytes SlabDefectReq.write }
  | .slabRelease tag body => some { kind := 0x12#8, tag := tag, body := body.bytes SlabIdReq.write }
  | .slabMove tag body => some { kind := 0x13#8, tag := tag, body := body.bytes SlabMoveReq.write }
  | .slabQuery tag body => some { kind := 0x14#8, tag := tag, body := body.bytes SlabIdReq.write }
  | .slabList tag body => some { kind := 0x15#8, tag := tag, body := body.bytes SlabListReq.write }
  | .locate tag body => some { kind := 0x16#8, tag := tag, body := body.bytes LocateReq.write }
  | .zoneSet tag body => some { kind := 0x17#8, tag := tag, body := body.bytes ZoneSetReq.write }
  | .defaultZoneSet tag body => some { kind := 0x18#8, tag := tag, body := body.bytes DefaultZoneSetReq.write }
  | .slabScrap tag body => some { kind := 0x19#8, tag := tag, body := body.bytes SlabIdReq.write }
  | .slabClose tag body => some { kind := 0x1A#8, tag := tag, body := body.bytes SlabCloseReq.write }
  | .planSet tag body => some { kind := 0x20#8, tag := tag, body := body.bytes PlanSetReq.write }
  | .place tag body => some { kind := 0x21#8, tag := tag, body := body.bytes PlaceReq.write }
  | .placeAuto tag body => some { kind := 0x22#8, tag := tag, body := body.bytes PlaceAutoReq.write }
  | .unplace tag body => some { kind := 0x23#8, tag := tag, body := body.bytes PieceReq.write }
  | .planQuery tag body => some { kind := 0x24#8, tag := tag, body := body.bytes PlanQueryReq.write }
  | .resolve tag body => some { kind := 0x25#8, tag := tag, body := body.bytes ResolveReq.write }
  | .jobOpen tag body => some { kind := 0x30#8, tag := tag, body := body.bytes JobOpenReq.write }
  | .jobSet tag body => some { kind := 0x31#8, tag := tag, body := body.bytes JobSetReq.write }
  | .jobList tag body => some { kind := 0x32#8, tag := tag, body := body.bytes JobListReq.write }
  | .jobQuery tag body => some { kind := 0x33#8, tag := tag, body := body.bytes JobQueryReq.write }
  | .pieceAdd tag body => some { kind := 0x34#8, tag := tag, body := body.bytes PieceAddReq.write }
  | .pieceRemove tag body => some { kind := 0x35#8, tag := tag, body := body.bytes PieceReq.write }
  | .jobHold tag body => some { kind := 0x36#8, tag := tag, body := body.bytes JobReq.write }
  | .jobResume tag body => some { kind := 0x37#8, tag := tag, body := body.bytes JobReq.write }
  | .jobClose tag body => some { kind := 0x38#8, tag := tag, body := body.bytes JobReq.write }
  | .jobDiscard tag body => some { kind := 0x39#8, tag := tag, body := body.bytes JobReq.write }
  | .ratesetSet tag body => some { kind := 0x3A#8, tag := tag, body := body.bytes RatesetSetReq.write }
  | .ratesetQuery tag body => some { kind := 0x3B#8, tag := tag, body := body.bytes RatesetQueryReq.write }
  | .stationDefine tag body => some { kind := 0x40#8, tag := tag, body := body.bytes StationDefineReq.write }
  | .stationRemove tag body => some { kind := 0x41#8, tag := tag, body := body.bytes SlotReq.write }
  | .stationQuery tag body => some { kind := 0x42#8, tag := tag, body := body.bytes SlotReq.write }
  | .load tag body => some { kind := 0x43#8, tag := tag, body := body.bytes LoadReq.write }
  | .unload tag body => some { kind := 0x44#8, tag := tag, body := body.bytes UnloadReq.write }
  | .stepQueue tag body => some { kind := 0x45#8, tag := tag, body := body.bytes StepQueueReq.write }
  | .stepCancel tag body => some { kind := 0x46#8, tag := tag, body := body.bytes StepCancelReq.write }
  | .stepAbort tag body => some { kind := 0x47#8, tag := tag, body := body.bytes SlotReq.write }
  | .stationHold tag body => some { kind := 0x48#8, tag := tag, body := body.bytes SlotReq.write }
  | .stationRelease tag body => some { kind := 0x49#8, tag := tag, body := body.bytes SlotReq.write }
  | .faultClear tag body => some { kind := 0x4A#8, tag := tag, body := body.bytes SlotReq.write }
  | .toolChange tag body => some { kind := 0x4B#8, tag := tag, body := body.bytes ToolChangeReq.write }
  | .flagsSet tag body => some { kind := 0x4C#8, tag := tag, body := body.bytes FlagsSetReq.write }
  | .flagsQuery tag body => some { kind := 0x4D#8, tag := tag, body := body.bytes NoFields.write }
  | .lineSettings tag body => some { kind := 0x4E#8, tag := tag, body := body.bytes LineSettingsReq.write }
  | .loopSet tag body => some { kind := 0x50#8, tag := tag, body := body.bytes LoopSetReq.write }
  | .loopQuery tag body => some { kind := 0x51#8, tag := tag, body := body.bytes NoFields.write }
  | .loopStart tag body => some { kind := 0x52#8, tag := tag, body := body.bytes NoFields.write }
  | .primeEnd tag body => some { kind := 0x53#8, tag := tag, body := body.bytes NoFields.write }
  | .purgeNow tag body => some { kind := 0x54#8, tag := tag, body := body.bytes NoFields.write }
  | .loopStandby tag body => some { kind := 0x55#8, tag := tag, body := body.bytes NoFields.write }
  | .loopResume tag body => some { kind := 0x56#8, tag := tag, body := body.bytes NoFields.write }
  | .loopHandover tag body => some { kind := 0x57#8, tag := tag, body := body.bytes LoopHandoverReq.write }
  | .loopReclaim tag body => some { kind := 0x58#8, tag := tag, body := body.bytes NoFields.write }
  | .bankWrite tag body => some { kind := 0x60#8, tag := tag, body := body.bytes BankWriteReq.write }
  | .pointSet tag body => some { kind := 0x61#8, tag := tag, body := body.bytes PointSetReq.write }
  | .bankRead tag body => some { kind := 0x62#8, tag := tag, body := body.bytes BankReadReq.write }
  | .pointMode tag body => some { kind := 0x63#8, tag := tag, body := body.bytes PointModeReq.write }
  | .pointInvert tag body => some { kind := 0x64#8, tag := tag, body := body.bytes PointInvertReq.write }
  | .edgeWatch tag body => some { kind := 0x65#8, tag := tag, body := body.bytes EdgeWatchReq.write }
  | .shopStatus tag body => some { kind := 0x70#8, tag := tag, body := body.bytes NoFields.write }
  | .clockSet tag body => some { kind := 0x71#8, tag := tag, body := body.bytes ClockSetReq.write }
  | .restart tag body => some { kind := 0x72#8, tag := tag, body := body.bytes NoFields.write }
  | .shopAccount tag body => some { kind := 0x73#8, tag := tag, body := body.bytes ShopAccountReq.write }

end Sys2Proof
end

