-- ==== Sys2Proof/Safety.lean ====
section
/-!
DEFINITION. What a sound state of the part is: the laws that the manual says the part holds, and the bounds of its tables, lists and accounts.
-/
namespace Sys2Proof.Machine

/-! ### The link -/

/-- A request that comes now is taken at once: no restart waits to take effect, no other request waits, and the reply list has room (R174, R181). -/
abbrev State.takesAtOnce (s : State) : Prop :=
  s.lnk.restartPending = false ∧ s.lnk.requests = [] ∧ s.lnk.replyCount < Config.maxReplies

/-! ### Tables and lists -/

/-- Every table is in its canonical form: its numbers strictly rise (R1, R42, R80). -/
abbrev State.tablesSorted (s : State) : Prop :=
  s.stk.slabs.sorted ∧ s.job.jobs.sorted ∧ (∀ e ∈ s.job.jobs, e.2.pieces.sorted) ∧ s.dsp.stations.sorted ∧ s.cst.sorted ∧ s.wlc.grants.sorted ∧
  s.slc.haltOwed.sorted

/-- The records of each table, the placements and defects of a slab, the pieces of a job and the steps of a queue are no more than the part has room
for, and a job names one of the four rate sets (R1, R2, R23, R42, R43, R89). -/
abbrev State.tablesBounded (s : State) : Prop :=
  s.stk.slabs.length ≤ Config.maxSlabs ∧
  (∀ e ∈ s.stk.slabs, e.2.placements.length ≤ Config.maxPlacements ∧ e.2.defects.length ≤ Config.maxDefects) ∧
  s.job.jobs.length ≤ Config.maxJobs ∧ (∀ e ∈ s.job.jobs, e.2.pieces.length ≤ Config.maxPieces ∧ e.2.rateSet ≤ 3) ∧
  (∀ e ∈ s.dsp.stations, e.2.queue.length ≤ Config.maxSteps)

/-- The lists of the host link are no longer than the part holds (R174, R178). -/
abbrev State.linkBounded (s : State) : Prop :=
  s.lnk.requests.length ≤ Config.maxRequests ∧ s.lnk.replyCount ≤ Config.maxReplies ∧ s.lnk.reportCount ≤ Config.maxReports ∧
  s.lnk.dropped ≤ Config.max16

/-! ### Money and water -/

/-- Whether a job's four accumulators lie in their range (R55). -/
abbrev Job.inCap (jb : Job) : Prop :=
  jb.material ≤ Config.centsCap ∧ jb.machine ≤ Config.centsCap ∧ jb.water ≤ Config.centsCap ∧ jb.tool ≤ Config.centsCap

/-- Every account of cents, and the makeup count, lies in its range (R4, R55, R63). -/
abbrev State.moneyCapped (s : State) : Prop :=
  (∀ e ∈ s.job.jobs, e.2.inCap) ∧ (∀ e ∈ s.stk.slabs, e.2.carried ≤ Config.centsCap) ∧ s.job.overhead ≤ Config.overheadCap ∧
  s.job.makeup ≤ Config.makeupCap

/-- The loop states in which a grant may be held (R137). -/
def LoopState.mayHold : LoopState → Bool
  | .running => true
  | .purgeWait => true
  | .standbyWait => true
  | .handoverWait => true
  | _ => false

/-- The law of the pump: the flows of the grants held fit within Q, and a grant is held only in four loop states (R137). -/
abbrev State.waterLaw (s : State) : Prop :=
  s.wlc.flowSum ≤ s.wlc.settings.pump ∧ (s.wlc.grants ≠ [] → s.wlc.state.mayHold = true)

/-- The loop settings lie in their ranges, and reserve < low < high ≤ capacity (R128). -/
abbrev LoopSettings.lawful (x : LoopSettings) : Prop :=
  (40 ≤ x.pump ∧ x.pump ≤ 400) ∧ (500 ≤ x.capacity ∧ x.capacity ≤ 20000) ∧ x.reserve < x.low ∧ x.low < x.high ∧ x.high ≤ x.capacity ∧
  x.margin ≤ x.capacity ∧ x.intervalIndex ≤ 7 ∧ (1 ≤ x.duration ∧ x.duration ≤ 8) ∧ (5 ≤ x.lateLimit ∧ x.lateLimit ≤ 60) ∧
  (1 ≤ x.pulse ∧ x.pulse ≤ 100)

/-! ### Points and flags -/

/-- Every point has the level that it drives, or that the plant gives it through invert (R138, R156, R159). -/
abbrev State.pointsSettled (s : State) : Prop := ∀ i < 32, (s.point i).level = s.trueLevel i

/-- Shop flag 0 stands true where it is stored (R94). -/
abbrev State.flagZero (s : State) : Prop := s.dsp.flags[0] = true

/-! ### The station line -/

/-- The send list holds at most one frame of a kind for a station (R116). -/
abbrev State.sendLaw (s : State) : Prop := s.slc.sendList.Pairwise (fun f g => f.sameKind g = false)

/-- The send list after a frame has joined it, in an event that handed over no other frame but ones to the same station: it takes the place of the frame
of its kind for its station, or goes to the tail (R116). -/
def PartFrame.joins (f : PartFrame) (l : List PartFrame) : List PartFrame :=
  if l.any f.sameKind then l.map (fun g => if f.sameKind g then f else g) else l ++ [f]

/-! ### Stations and slabs -/

/-- Behind the head of a queue every step is QUEUED (R89). -/
abbrev State.headLaw (s : State) : Prop := ∀ e ∈ s.dsp.stations, ∀ h ∈ e.2.queue.tail, h.state = .queued

/-- A slab is LOADED exactly when its location code is the floor code of the station that records it as loaded (R3). -/
abbrev State.loadedLaw (s : State) : Prop :=
  (∀ e ∈ s.stk.slabs, (e.2.state = .loaded ↔ e.2.loadedOn ≠ none) ∧ ∀ n, floorSlot? e.2.location = some n ↔ e.2.loadedOn = some n) ∧
  (∀ e ∈ s.stk.slabs, ∀ n, e.2.loadedOn = some n → (s.station? n).bind (·.loaded) = some e.1) ∧
  (∀ e ∈ s.dsp.stations, ∀ id, e.2.loaded = some id → (s.slab? id).bind (·.loadedOn) = some e.1) ∧
  (∀ e ∈ s.dsp.stations, 1 ≤ e.1 ∧ e.1 ≤ 8)

/-! ### Geometry -/

/-- A rectangle has room on a slab: it lies inside the usable region, overlaps no defect window, and is a kerf clear of every placement (R27). -/
abbrev Slab.roomFor (sl : Slab) (k x y w h : Nat) : Prop :=
  (sl.trim ≤ x ∧ sl.trim ≤ y ∧ x + w ≤ sl.xExt - sl.trim ∧ y + h ≤ sl.yExt - sl.trim ∧ sl.trim ≤ sl.xExt ∧ sl.trim ≤ sl.yExt) ∧
  (∀ d ∈ sl.defects, x + w ≤ d.x0 ∨ d.x1 ≤ x ∨ y + h ≤ d.y0 ∨ d.y1 ≤ y) ∧
  ∀ q ∈ sl.placements, x + w + k ≤ q.x ∨ q.x + q.w + k ≤ x ∨ y + h + k ≤ q.y ∨ q.y + q.h + k ≤ y

/-- The corners that the search on a slab tries, each raised to the trim margin (R33). -/
def Slab.corners (sl : Slab) (k : Nat) : List (Nat × Nat) :=
  ([(sl.trim, sl.trim)] ++ sl.placements.map (fun q => (q.x + q.w + k, q.y)) ++ sl.placements.map (fun q => (q.x, q.y + q.h + k)) ++
    sl.defects.map (fun d => (d.x1, max sl.trim d.y0)) ++ sl.defects.map (fun d => (max sl.trim d.x0, d.y1))).map
    (fun c => (max sl.trim c.1, max sl.trim c.2))

/-- A piece goes on a slab at a corner and orientation: the corner is one the search tries, the orientation is allowed, and the piece has room
(R29, R33, R34). -/
abbrev Slab.fitsAt (sl : Slab) (k : Nat) (pc : Piece) (x y : Nat) (rotated : Bool) : Prop :=
  (x, y) ∈ sl.corners k ∧ (rotated = true → pc.grain = false) ∧
  sl.roomFor k x y (if rotated then pc.yExt else pc.xExt) (if rotated then pc.xExt else pc.yExt)

/-- A piece's match group leaves a slab free to it: no placement of the group stands on another slab (R30). -/
abbrev State.groupFree (s : State) (id j : Nat) (pc : Piece) : Prop :=
  pc.group = 0 ∨ ∀ e ∈ s.stk.slabs, e.1 ≠ id → ∀ q ∈ e.2.placements, q.job = j → s.groupOf j q.piece ≠ pc.group

/-- The state in which a piece has been placed on a slab: the placement is appended, the slab is ALLOCATED if it was AVAILABLE, and the piece is
PLANNED (R32). -/
def State.placed (s : State) (id j p : Nat) (q : Placement) : State :=
  let onSlab := fun sl : Slab => { sl with placements := sl.placements ++ [q], state := if sl.state = .available then .allocated else sl.state }
  let plan := fun pc : Piece => { pc with state := .planned }
  let ofJob := fun jb : Job => { jb with pieces := jb.pieces.modify p plan }
  { s with stk := { s.stk with slabs := s.stk.slabs.modify id onSlab }, job := { s.job with jobs := s.job.jobs.modify j ofJob } }

/-- The law of the stone: every placement lies inside the usable region, overlaps no defect window, and is a kerf clear of every other placement
(R27). -/
abbrev Slab.geometry (sl : Slab) (k : Nat) : Prop :=
  (∀ q ∈ sl.placements, sl.inside q.x q.y q.w q.h = true ∧ ∀ d ∈ sl.defects, d.clearOf q.x q.y q.w q.h = true) ∧
  sl.placements.Pairwise (fun p q => p.kerfClear k q.x q.y q.w q.h = true)

/-- Every slab keeps the law of the stone, and a RECEIVED or AVAILABLE slab has no placement (R3, R27). -/
abbrev State.geometryLaw (s : State) : Prop :=
  ∀ e ∈ s.stk.slabs, e.2.geometry s.pln.kerf ∧ (e.2.state = .received ∨ e.2.state = .available → e.2.placements = [])

end Sys2Proof.Machine
end

