-- ==== Sys2Proof/Certificates/Slice0/Obligations.lean ====
section
/-!
DEFINITION. The statements about the part.
-/

open Sys2Proof Sys2Proof.Machine

/-! ### The link and the two resets -/

/-- A step takes the command at the front of the queue and runs it with the rest; on an empty queue the part idles (log entry 3). -/
def Obligations.StepRunsFront : Prop :=
  (∀ (s : State) (c : Instr) (rest : List Instr), s.pending = c :: rest → step s = exec c { s with pending := rest }) ∧
  ∀ s : State, s.pending = [] → step s = .next s

/-- Every command in every state answers a next state, and leaves the queue of waiting commands alone. -/
def Obligations.EveryCommandAnswers : Prop := ∀ (i : Instr) (s : State), ∃ t, exec i s = .next t ∧ t.pending = s.pending

/-- R183 to R187: a well-formed command acts as the bytes that carry its fields do. That a command may carry its fields or its bytes is log entry 24, and
the widths that R183 does not list are log entry 4. -/
def Obligations.BytesCarryFields : Prop := ∀ (i : Instr) (s : State), i.wellFormed = true → exec i.asRaw s = exec i s

/-- R171 to R174, R181: while the receiver is in no frame, the bytes of a whole frame put its request at the tail of the request list, and change nothing
where the list is full, a restart waits (log entry 2), or the kind is no request's. Such a discarded frame is passed over whole, also where its body holds a
start mark or a frame (log entry 40). A frame cut by a gap leaves no trace. -/
def Obligations.FrameBytesBecomeRequest : Prop :=
  ∀ (kind tag : Byte) (body : List Byte) (s : State), body.length ≤ 250 → s.lnk.rx = [] →
    exec (.hostFrameReceive ((hostFrame kind tag body).map some)) s =
      .next (if (0x10 ≤ kind.toNat ∧ kind.toNat ≤ 0x7F) ∧ s.lnk.restartPending = false ∧ s.lnk.requests.length < 4 then
          { s with lnk := { s.lnk with requests := s.lnk.requests ++ [{ kind := kind, tag := tag, body := body }] } }
        else s) ∧
    ∀ n < (hostFrame kind tag body).length, ∃ t, exec (.hostFrameReceive (((hostFrame kind tag body).take n).map some)) s = .next t ∧
      exec .interByteTimeout t = .next s

/-- R174, R181, with the taking of a request as log entry 2 fixes it: a request that cannot be taken waits its turn, and one taken from the head of
the list is answered with its own kind and tag. -/
def Obligations.RequestWaitsItsTurn : Prop :=
  ∀ (i : Instr) (f : ReqFrame) (s : State), i.frame? = some f →
    (s.lnk.restartPending = true → exec i s = .next s) ∧
    (s.lnk.restartPending = false →
      (∀ g l, s.lnk.requests = g :: l → g ≠ f →
        exec i s = .next (if s.lnk.requests.length < 4 then { s with lnk := { s.lnk with requests := s.lnk.requests ++ [f] } } else s)) ∧
      (s.lnk.requests = [] → 8 ≤ s.lnk.replyCount → exec i s = .next { s with lnk := { s.lnk with requests := [f] } }) ∧
      (∀ l, s.lnk.requests = f :: l → 8 ≤ s.lnk.replyCount → exec i s = .next s) ∧
      (∀ l, s.lnk.requests = f :: l → s.lnk.replyCount < 8 →
        ∃ t r, exec i s = .next (State.addReply (f.kind + 0x80#8) f.tag r t) ∧
          (t.lnk.requests = l ∨ (f.kind = 0x72#8 ∧ t.lnk.requests = []))))

/-- R174, R183, R185: a kind that names no request is answered UNKNOWN_KIND, a body that its kind does not allow BAD_LENGTH, for each of the 63 kinds of
requests, and nothing else changes. A kind allows the lengths listed, or, where it has optional fields, the length that its presence field gives, with no
digit set beyond them. The lengths rest on the widths of R183, and for the fields that R183 does not list on log entry 4. -/
def Obligations.MisfitFramesRefused : Prop :=
  let lengths : List (Nat × List Nat) :=
    [(0x10, [20]), (0x11, [12]), (0x12, [4]), (0x13, [6]), (0x14, [4]), (0x15, [5]), (0x16, [2]), (0x17, [12]), (0x18, [6]), (0x19, [4]), (0x21, [12]),
      (0x22, [7, 3]), (0x23, [3]), (0x24, [5, 3]), (0x25, [4]), (0x32, [1]), (0x33, [3]), (0x34, [11]), (0x35, [3]), (0x36, [2]), (0x37, [2]),
      (0x38, [2]), (0x39, [2]), (0x3A, [31]), (0x3B, [2]), (0x40, [12]), (0x41, [1]), (0x42, [1]), (0x43, [5]), (0x44, [3]), (0x46, [3]), (0x47, [1]),
      (0x48, [1]), (0x49, [1]), (0x4A, [1]), (0x4B, [5]), (0x4D, [0]), (0x51, [0]), (0x52, [0]), (0x53, [0]), (0x54, [0]), (0x55, [0]), (0x56, [0]),
      (0x57, [1]), (0x58, [0]), (0x60, [9]), (0x61, [2]), (0x62, [1]), (0x63, [2]), (0x64, [2]), (0x65, [2]), (0x70, [0]), (0x71, [4]), (0x72, [0]),
      (0x73, [1])]
  let optional : List (Nat × Nat × Nat × List Nat) :=
    [(0x1A, 1, 4, [12]), (0x20, 1, 0, [2, 2]), (0x30, 1, 3, [4]), (0x31, 1, 2, [1, 4]), (0x45, 1, 14, [2]), (0x4C, 2, 0, List.replicate 16 1),
      (0x4E, 1, 0, [2]), (0x50, 2, 0, [2, 2, 2, 2, 2, 2, 1, 1, 1, 1, 1, 1, 1])]
  let allowed := fun (kind : Nat) (body : List Byte) =>
    (∃ ls, (kind, ls) ∈ lengths ∧ body.length ∈ ls) ∨
    ∃ size fixed widths, (kind, size, fixed, widths) ∈ optional ∧ size ≤ body.length ∧ leValue (body.take size) < 2 ^ widths.length ∧
      body.length = size + fixed + (widths.zipIdx.map (fun e => if (leValue (body.take size)).testBit e.2 then e.1 else 0)).sum
  (∀ (kind tag : Byte) (bs : List Byte) (s : State), s.takesAtOnce → 0x10 ≤ kind.toNat → kind.toNat ≤ 0x7F → namesRequest kind.toNat = false →
    exec (.unknownKind kind tag bs) s = .next (State.addReply (kind + 0x80#8) tag ⟨.unknownKind, []⟩ s)) ∧
  ∀ (i : Instr) (f : ReqFrame) (s : State), s.takesAtOnce → i.frame? = some f → namesRequest f.kind.toNat = true → ¬allowed f.kind.toNat f.body →
    exec i.asRaw s = .next (State.addReply (f.kind + 0x80#8) f.tag ⟨.badLength, []⟩ s)

/-- R177, R178: the first frame in the sending order leaves when its last byte is sent, and where reports have been dropped a REPORTS DROPPED report
takes the place a report leaves. A report placed joins the tail, or with 32 waiting is dropped and counted. That the clock of the first drop returns to
0 with the count is log entry 23, and that FRAME_SENT changes nothing where nothing waits is log entry 3. -/
def Obligations.SendingOrder : Prop :=
  (∀ s : State, s.lnk.out = [] → exec .frameSent s = .next s) ∧
  (∀ (s : State) (kind tag : Byte) (r : Reply) (rest : List OutFrame), s.lnk.out = .reply kind tag r :: rest →
    s.lnk.restartPending = false ∨ kind ≠ 0xF2#8 →
    exec .frameSent s = .next { s with lnk := { s.lnk with out := rest } }) ∧
  (∀ (s : State) (stamp : Nat) (r : Report) (rest : List OutFrame), s.lnk.out = .report stamp r :: rest →
    exec .frameSent s = .next { s with lnk := { s.lnk with
      out := rest ++ (if 0 < s.lnk.dropped then [.report s.clk.shop (.reportsDropped s.lnk.dropped s.lnk.firstDrop)] else [])
      dropped := 0
      firstDrop := if 0 < s.lnk.dropped then 0 else s.lnk.firstDrop } }) ∧
  (∀ (s : State) (r : Report), (s.lnk.out.filter OutFrame.isReport).length < 32 →
    s.report r = { s with lnk := { s.lnk with out := s.lnk.out ++ [.report s.clk.shop r] } }) ∧
  ∀ (s : State) (r : Report), 32 ≤ (s.lnk.out.filter OutFrame.isReport).length →
    s.report r = { s with lnk := { s.lnk with
      dropped := min (s.lnk.dropped + 1) 65535
      firstDrop := if s.lnk.dropped = 0 then s.clk.shop else s.lnk.firstDrop } }

/-- R181: RESTART is answered OK and closes the link to requests; the warm restart takes effect when that reply has been sent, and a second one finds
nothing to change (log entry 6). -/
def Obligations.RestartTakesEffectWhenAnswered : Prop :=
  (∀ (tag : Byte) (s : State), s.takesAtOnce →
    exec (.restart tag (.fields {})) s =
      .next (State.addReply 0xF2#8 tag ⟨.ok, []⟩ { s with lnk := { s.lnk with requests := [], restartPending := true } })) ∧
  (∀ (tag : Byte) (s : State) (rest : List OutFrame), s.lnk.restartPending = true → s.lnk.out = .reply 0xF2#8 tag ⟨.ok, []⟩ :: rest →
    exec .frameSent s = exec .warmRestart s) ∧
  ∀ s t : State, exec .warmRestart s = .next t → exec .warmRestart t = .next t

/-- R41, R111, R127, R155, R170, R181: what a warm restart keeps and what it changes, block by block. A line busy with another party's frame stays OTHER,
and a frame being received on it is acknowledged no more; what a frame of the part's leaves is log entry 7. The level of a point that was driving is the
plant's value through invert (log entry 9). -/
def Obligations.WarmRestartKeepsRecords : Prop :=
  ∀ s : State, ∃ t, exec .warmRestart s = .next t ∧
    (t.pln = s.pln ∧ t.stk.zones = s.stk.zones ∧ t.stk.defaultZone = s.stk.defaultZone ∧ t.job.rateSets = s.job.rateSets ∧
      t.job.overhead = s.job.overhead ∧ t.job.makeup = s.job.makeup ∧ t.dsp.flags = s.dsp.flags ∧ t.wlc.settings = s.wlc.settings ∧
      t.slc.pollInterval = s.slc.pollInterval ∧ t.clk = s.clk) ∧
    (∀ id, t.slab? id = (s.slab? id).map (fun sl => { sl with placements := sl.placements.map (fun q =>
      { q with
        state := if q.state = .issued then .planned else q.state
        marked := q.marked || (q.state == .issued && decide (∃ e ∈ s.dsp.stations, ∃ h ∈ e.2.queue, h.kind = .cut q.job q.piece ∧
          (h.state = .offered ∨ h.state = .inProgress ∨ h.state = .halting ∨ h.state = .inDoubt)))
        token := none }) })) ∧
    (∀ j, t.job? j = (s.job? j).map (fun jb => { jb with pieces := jb.pieces.map (fun e =>
      (e.1, { e.2 with state := if e.2.state = .issued then .planned else e.2.state })) })) ∧
    (∀ n, t.station? n = (s.station? n).map (fun st =>
      { st with condition := .offline, queue := [], nextStep := 1, nextToken := 1, failures := 0, reason := .none })) ∧
    (∀ i < 32, t.point i = { s.point i with mode := .input, watch := .none, level := (s.point i).plant != (s.point i).invert }) ∧
    (t.cst = [] ∧ t.wlc.state = .off ∧ t.wlc.deferred = .none ∧ t.wlc.handover = none ∧ t.wlc.throttled = false ∧ t.wlc.sumpHigh = false ∧
      t.wlc.due = false ∧ t.wlc.lateReported = false ∧ t.wlc.lateWait = 0 ∧ t.wlc.minutes = 0 ∧ t.wlc.seconds = 0 ∧ t.wlc.purgeEnd = none ∧ t.wlc.priming = none ∧
      t.wlc.makeupOpen = false ∧ t.wlc.counts = 0 ∧ t.wlc.volume = 0 ∧ t.wlc.grants = [] ∧ t.wlc.waitList = []) ∧
    (t.slc.line = (if s.slc.line = .other then .other else .idle) ∧
      t.slc.hearing = (if s.slc.line = .other then (if s.slc.hearing = .hearing then .declined else s.slc.hearing) else .hearing) ∧
      t.slc.own = none ∧ t.slc.stuck = false ∧ t.slc.clears = [] ∧ t.slc.window = none ∧ t.slc.sendList = [] ∧ t.slc.haltOwed = [] ∧
      t.slc.flowOwed = [] ∧ t.slc.roundLeft = [] ∧ t.slc.roundOwed = false) ∧
    (t.lnk.rx = [] ∧ t.lnk.requests = [] ∧ t.lnk.out = [] ∧ t.lnk.dropped = 0 ∧ t.lnk.restartPending = false)

/-- R1, R6, R20, R42, R58, R63, R111, R127, R128, R155, R169, R170, R182: what every block holds at power-on. The wires are the plant's (log entry 1). That the
part then hears as on an idle line, has sent no line-clear sequence, owes no round and has no clock of a first drop is log entry 23. -/
def Obligations.PowerOnValues : Prop :=
  ∀ (wires : BitVec 32) (s : State), ∃ t, exec (.powerOn wires) s = .next t ∧
    (t.stk.slabs = [] ∧ t.job.jobs = [] ∧ t.dsp.stations = [] ∧ t.cst = []) ∧
    (∀ z ∈ t.stk.zones.toList, z = { base := 0, mask := 0, kind := .store, search := true, charge := 0, enabled := false }) ∧
    t.stk.defaultZone = { kind := .store, search := true, charge := 0 } ∧
    t.pln = { kerf := 4, minRemnant := 300 } ∧
    (∀ k < 4, t.rateSet k =
      { machineSaw := 0, machineJet := 0, machineWater := 0, toolSaw := 0, toolJet := 0, toolWater := 0, water := 0, rounding := .nearestEven,
        holdOnSaturate := false, inexact := false, saturated := false }) ∧
    (t.job.overhead = 0 ∧ t.job.makeup = 0) ∧
    (∀ k < 16, t.flag k = decide (k = 0)) ∧
    (t.slc.line = .idle ∧ t.slc.own = none ∧ t.slc.hearing = .hearing ∧ t.slc.stuck = false ∧ t.slc.clears = [] ∧ t.slc.window = none ∧ t.slc.sendList = [] ∧ t.slc.haltOwed = [] ∧ t.slc.flowOwed = [] ∧
      t.slc.roundLeft = [] ∧ t.slc.roundOwed = false ∧ t.slc.pollInterval = 100) ∧
    t.wlc.settings =
      { pump := 120, capacity := 4000, reserve := 800, low := 1600, high := 3200, margin := 400, purgeEnabled := false, intervalIndex := 3,
        duration := 3, lateLimit := 20, supply := false, prime := false, pulse := 10 } ∧
    (t.wlc.state = .off ∧ t.wlc.deferred = .none ∧ t.wlc.handover = none ∧ t.wlc.throttled = false ∧ t.wlc.sumpHigh = false ∧
      t.wlc.due = false ∧ t.wlc.lateReported = false ∧ t.wlc.lateWait = 0 ∧ t.wlc.minutes = 0 ∧ t.wlc.seconds = 0 ∧ t.wlc.purgeEnd = none ∧
      t.wlc.priming = none ∧ t.wlc.makeupOpen = false ∧ t.wlc.counts = 0 ∧ t.wlc.volume = 0 ∧ t.wlc.grants = [] ∧ t.wlc.waitList = []) ∧
    (∀ i < 32, t.point i =
      { mode := .input, latch := false, invert := false, watch := .none, plant := wires.getLsbD i, level := wires.getLsbD i }) ∧
    (t.lnk.rx = [] ∧ t.lnk.requests = [] ∧ t.lnk.out = [] ∧ t.lnk.dropped = 0 ∧ t.lnk.firstDrop = 0 ∧ t.lnk.restartPending = false) ∧
    t.clk.running = 0 ∧ t.clk.shop = 0

/-! ### The clocks and the water loop's own events -/

/-- R179, R143, R146: a second moves both clocks, the seconds part of the running-minutes count in the states that count, and the wait of a due purge;
CLOCK SET writes the shop clock. That the counts go on at the top of the running counter is log entry 51, and that CLOCK SET refuses a value no four bytes
hold, which a command of fields may carry, log entry 24. -/
def Obligations.ClocksAdvance : Prop :=
  (∀ s : State, exec .secondTick s = .next { s with
    clk := { running := min (s.clk.running + 1) 4294967295, shop := if s.clk.shop = 4294967295 then 0 else s.clk.shop + 1 }
    wlc := { s.wlc with
      seconds := if s.wlc.state = .running ∨ s.wlc.state = .purgeWait ∨ s.wlc.state = .handoverWait ∨
          (s.wlc.state = .manual ∧ s.wlc.handover = some .keepPurge ∧ s.wlc.purgeEnd = none) then s.wlc.seconds + 1 else s.wlc.seconds
      lateWait := if s.wlc.due = true ∧ s.wlc.purgeEnd = none ∧
          (s.wlc.state = .purgeWait ∨ s.wlc.state = .standbyWait ∨ s.wlc.state = .handoverWait) then s.wlc.lateWait + 1 else s.wlc.lateWait } }) ∧
  ∀ (tag : Byte) (v : Nat) (s : State), s.takesAtOnce →
    exec (.clockSet tag (.fields ⟨v⟩)) s =
      if v ≤ 4294967295 then .next (State.addReply 0xF1#8 tag ⟨.ok, u32 v⟩ { s with clk := { s.clk with shop := v } })
      else .next (State.addReply 0xF1#8 tag ⟨.badValue, []⟩ s)

/-- R131, R132, R152: a sample is kept with its clean volume, the throttled mark and the rate of every grant follow the reserve and the restore
threshold, and while makeup is active its mark follows the low and high marks. -/
def Obligations.SampleDecides : Prop :=
  ∀ (counts : Fin 4096) (s : State), ∃ t, exec (.levelGaugeSample counts) s = .next t ∧
    (t.wlc.counts = counts.val ∧ t.wlc.volume = counts.val * s.wlc.settings.capacity / 4095) ∧
    (t.wlc.throttled =
      if s.wlc.state = .off then s.wlc.throttled
      else if s.wlc.throttled then decide (t.wlc.volume < min (s.wlc.settings.reserve + s.wlc.settings.margin) s.wlc.settings.capacity)
      else decide (t.wlc.volume < s.wlc.settings.reserve)) ∧
    (s.wlc.throttled = false → t.wlc.throttled = true →
      t.wlc.grants = s.wlc.grants.map (fun e => (e.1, { e.2 with rate := max 1 (e.2.flow / 2) }))) ∧
    (s.wlc.throttled = true → t.wlc.throttled = false → ∀ e ∈ t.wlc.grants, e.2.rate = e.2.flow) ∧
    (s.wlc.throttled = t.wlc.throttled → t.wlc.grants = s.wlc.grants ∧ t.wlc.waitList = s.wlc.waitList ∧ t.dsp = s.dsp ∧ t.slc = s.slc) ∧
    (t.wlc.makeupOpen =
      if s.wlc.state = .off ∨ s.wlc.state = .stopped ∨ (s.wlc.state = .manual ∧ s.wlc.handover = some .full) ∨ s.inFunction 10 = false then
        s.wlc.makeupOpen
      else if s.wlc.makeupOpen then decide (t.wlc.volume < s.wlc.settings.high)
      else decide (t.wlc.volume < s.wlc.settings.low)) ∧
    t.wlc.state = s.wlc.state ∧ t.wlc.due = s.wlc.due ∧ t.stk.zones = s.stk.zones ∧ t.clk = s.clk ∧ t.wlc.settings = s.wlc.settings

/-- R136, R143, R144, R146: the three timed events of the loop that may change no state. A full minute raises the count by one, up to its top, and
makes the due test; a priming phase that has run its time gives way to the other; a purge that has waited the late limit is reported once, in whatever loop
state it is found (log entry 50) and with its whole minutes (log entry 52). Where its time has not come an event changes nothing (log entry 3), and seconds
past the full minute are kept (log entry 27). -/
def Obligations.LoopTimersAct : Prop :=
  (∀ s : State, s.wlc.seconds < 60 → exec .runningMinutes s = .next s) ∧
  (∀ s : State, 60 ≤ s.wlc.seconds → ∃ t, exec .runningMinutes s = .next t ∧
    t.wlc.seconds = s.wlc.seconds - 60 ∧ t.wlc.minutes = min (s.wlc.minutes + 1) 65535 ∧
    t.wlc.due = (s.wlc.due || decide (s.wlc.state ≠ .off ∧ s.wlc.settings.purgeEnabled = true ∧
      s.wlc.settings.interval ≤ min (s.wlc.minutes + 1) 65535)) ∧
    (t.wlc.due = true → s.wlc.state = .running → t.wlc.state = if s.wlc.grants = [] then .purging else .purgeWait) ∧
    (t.wlc.due = false → t.wlc.state = s.wlc.state ∧ t.dsp = s.dsp ∧ t.lnk = s.lnk)) ∧
  (∀ (s : State) (p : Priming), s.wlc.priming = some p → p.start + (if p.on then 40 else 20) ≤ s.clk.running →
    ∃ t, exec .primingPhase s = .next t ∧ t.wlc = { s.wlc with priming := some { on := !p.on, start := s.clk.running } } ∧
      t.dsp = s.dsp ∧ t.slc = s.slc ∧ t.stk = s.stk ∧ t.job = s.job) ∧
  (∀ s : State, (∀ p, s.wlc.priming = some p → s.clk.running < p.start + (if p.on then 40 else 20)) → exec .primingPhase s = .next s) ∧
  (∀ s : State, exec .purgeLate s = .next (
    if s.wlc.due = true ∧ s.wlc.lateReported = false ∧ s.wlc.settings.lateLimit * 60 ≤ s.wlc.lateWait then
      State.report (.purgeLate (s.wlc.lateWait / 60) s.wlc.minutes s.wlc.settings.interval s.wlc.grants.length s.wlc.state)
        { s with wlc := { s.wlc with lateReported := true } }
    else s))

/-- R145: a purge that reaches its end time clears the count, the due mark and its own marks, and the loop goes on as the table of the rule says; before
that time nothing changes (log entry 3). -/
def Obligations.PurgeEndGoesOn : Prop :=
  (∀ s : State, (∀ e, s.wlc.purgeEnd = some e → s.clk.running < e) → exec .purgeComplete s = .next s) ∧
  ∀ (s : State) (e : Nat), s.wlc.purgeEnd = some e → e ≤ s.clk.running → ∃ t, exec .purgeComplete s = .next t ∧
    (t.wlc.minutes = 0 ∧ t.wlc.seconds = 0 ∧ t.wlc.due = false ∧ t.wlc.lateReported = false ∧ t.wlc.purgeEnd = none) ∧
    (s.wlc.state = .purging → s.wlc.deferred = .none → t.wlc.state = .running) ∧
    (s.wlc.state = .purging → s.wlc.deferred = .standby → t.wlc.state = .standby ∧ t.wlc.deferred = .none) ∧
    (s.wlc.state = .purging → s.wlc.deferred = .handover →
      t.wlc.state = .manual ∧ t.wlc.deferred = .none ∧ t.wlc.handover = s.wlc.handover) ∧
    (s.wlc.state = .standbyPurge → s.wlc.deferred = .none → t.wlc.state = .standby) ∧
    (s.wlc.state = .standbyPurge → s.wlc.deferred = .resume → t.wlc.state = .running ∧ t.wlc.deferred = .none) ∧
    (s.wlc.state = .wakePurge → t.wlc.state = .running) ∧
    (s.wlc.state = .manual → t.wlc.state = .manual ∧ t.wlc.handover = s.wlc.handover)

/-! ### The station line -/

/-- R118, R125, R126: at its expiry the poll timer restarts with the interval in force, and a new round of every station begins or is owed; on a stuck
line the clear sequence goes out again, each station still owed an exchange counts a failure, and the new round begins. A line busy too long outside the
part's own frames sets the stuck-line mark, is sent the clear sequence, nine pulses or as many as freed the data wire and then a closing mark, and is
reported once (R124, R125). While the mark is set LINE_STUCK tells how the data wire stands for the next sequence, which else finds it as the last one left
it (log entry 41); on a line that is not OTHER it changes nothing (log entry 3). -/
def Obligations.RoundsAndStuckLine : Prop :=
  let sequence := fun freed : Option (Fin 10) => match freed with
    | some k => ({ pulses := k.val, closing := true } : LineClear)
    | none => { pulses := 9, closing := false }
  let left := fun freed : Option (Fin 10) => match freed with
    | some _ => some (0 : Fin 10)
    | none => none
  (∀ s : State, s.slc.stuck = false → exec .pollTimerExpiry s = .next { s with slc := { s.slc with
    timerPeriod := s.slc.pollInterval
    roundLeft := if s.slc.roundLeft = [] then s.dsp.stations.map (·.1) else s.slc.roundLeft
    roundOwed := decide (s.slc.roundLeft ≠ []) } }) ∧
  (∀ s : State, s.slc.stuck = true → s.slc.roundLeft.Nodup → ∃ t, exec .pollTimerExpiry s = .next t ∧
    t.slc.timerPeriod = s.slc.pollInterval ∧ t.slc.roundLeft = s.dsp.stations.map (·.1) ∧ t.slc.window = none ∧ t.slc.stuck = true ∧
    t.slc.clears = sequence s.slc.freedAfter :: s.slc.clears ∧ t.slc.freedAfter = left s.slc.freedAfter ∧
    ∀ n st, s.station? n = some st → ∃ st', t.station? n = some st' ∧
      st'.failures = (if n ∈ s.slc.roundLeft ∧ st.failures < 3 then st.failures + 1 else st.failures) ∧
      (n ∈ s.slc.roundLeft → st.failures = 2 → st'.condition = .unreachable)) ∧
  ∀ (held : StuckLine) (s : State),
    (s.slc.line = .other → s.slc.stuck = false →
      exec (.lineStuck held) s = .next (State.report (.lineStuck held.wires) { s with slc := { s.slc with
        stuck := true
        clears := sequence held.released :: s.slc.clears
        freedAfter := left held.released } })) ∧
    (s.slc.line = .other → s.slc.stuck = true →
      exec (.lineStuck held) s = .next { s with slc := { s.slc with freedAfter := held.released } }) ∧
    (s.slc.line ≠ .other → exec (.lineStuck held) s = .next s)

/-- R112, R117, R125: on an idle line the part opens nothing in an answer window, else the head of the send list, else at the turn of the next station of
the round its owed HALT, its owed FLOW SET, its POLL; the stuck mark clears. The owed frame goes out in the round under way where the station's turn is
still to come, and the FLOW SET with the present rate of the grant, also where it lost arbitration in this turn (log entry 36). The frame is opened in this
command (log entry 5), and while the part's own frame is on the line nothing changes (log entry 3). -/
def Obligations.IdleLineTakesNextFrame : Prop :=
  ∀ s : State,
    let c := { s.slc with stuck := false, clears := [], hearing := .hearing }
    (s.slc.line = .own → exec (.lineIdle none) s = .next s) ∧
    (s.slc.line ≠ .own →
      (s.slc.window ≠ none → exec (.lineIdle none) s = .next { s with slc := { c with line := .idle } }) ∧
      (s.slc.window = none → s.slc.sendList = [] → s.slc.roundLeft = [] →
        exec (.lineIdle none) s = .next { s with slc := { c with line := .idle } }) ∧
      (∀ f rest, s.slc.window = none → s.slc.sendList = f :: rest →
        exec (.lineIdle none) s =
          .next { s with slc := { c with line := .own, sendList := rest, own := some { frame := f, fromList := true } } }) ∧
      (∀ n l h, s.slc.window = none → s.slc.sendList = [] → s.slc.roundLeft = n :: l → s.slc.haltOwed.get? n = some h → s.slc.turnHalt = false →
        exec (.lineIdle none) s =
          .next { s with slc := { c with
            line := .own, turnHalt := true, own := some { frame := .halt n h.token h.foreign, fromList := false } } }) ∧
      (∀ n l g, s.slc.window = none → s.slc.sendList = [] → s.slc.roundLeft = n :: l → (s.slc.haltOwed.get? n = none ∨ s.slc.turnHalt = true) →
        n ∈ s.slc.flowOwed → s.wlc.grants.get? n = some g → s.slc.turnFlow = false →
        exec (.lineIdle none) s =
          .next { s with slc := { c with
            line := .own, turnFlow := true, own := some { frame := .flowSet n g.rate, fromList := false } } }) ∧
      (∀ n l, s.slc.window = none → s.slc.sendList = [] → s.slc.roundLeft = n :: l → (s.slc.haltOwed.get? n = none ∨ s.slc.turnHalt = true) →
        (n ∉ s.slc.flowOwed ∨ s.wlc.grants.get? n = none ∨ s.slc.turnFlow = true) →
        exec (.lineIdle none) s =
          .next { s with slc := { c with
            line := .own, own := some { frame := .poll n, fromList := false } } }))

/-- R123: of frames opened at one moment the numerically lower header wins. The part's frame that loses goes back to the head of the send list, or stays
due in its turn, and nothing is counted; one that wins goes on. With no frame of the part's own, another's opening makes the line OTHER. Of its
header, an odd one that names no station then defined is not acknowledged and is kept as such; an odd one that names a station is acknowledged, and an even
one is a busy line and nothing more (R113, R114), and the part stands toward both as it did. Where a newer frame of the lost one's kind has joined meanwhile, that
one goes to the head (log entry 37). -/
def Obligations.LowerHeaderWins : Prop :=
  let heard := fun (s : State) (b : Byte) =>
    if b.toNat % 2 = 1 ∧ ∀ e ∈ s.dsp.stations, e.2.address ≠ b.toNat / 2 then Hearing.unheard else .hearing
  let back := fun (f : PartFrame) (l : List PartFrame) => (l.find? f.sameKind).getD f :: l.filter (fun g => !f.sameKind g)
  (∀ s : State, s.slc.line ≠ .own → exec (.openingMark none) s = .next { s with slc := { s.slc with line := .other, hearing := .hearing } }) ∧
  (∀ (header : Byte) (s : State), s.slc.line ≠ .own →
    exec (.openingMark (some header)) s = .next { s with slc := { s.slc with line := .other, hearing := heard s header } }) ∧
  (∀ (header : Byte) (o : OwnFrame) (st : Station) (s : State), s.slc.line = .own → s.slc.own = some o → s.station? o.frame.slot = some st →
    (2 * st.address ≤ header.toNat → exec (.openingMark (some header)) s = .next s) ∧
    (header.toNat < 2 * st.address → o.fromList = true →
      exec (.openingMark (some header)) s =
        .next { s with slc := { s.slc with
          line := .other, own := none, hearing := heard s header, sendList := back o.frame s.slc.sendList } }) ∧
    (header.toNat < 2 * st.address → o.fromList = false → (∃ n, o.frame = .poll n) →
      exec (.openingMark (some header)) s = .next { s with slc := { s.slc with line := .other, own := none, hearing := heard s header } }) ∧
    (header.toNat < 2 * st.address → o.fromList = false → (∃ n tok fg, o.frame = .halt n tok fg) →
      exec (.openingMark (some header)) s = .next { s with slc := { s.slc with
        line := .other, own := none, hearing := heard s header, turnHalt := false } }) ∧
    (header.toNat < 2 * st.address → o.fromList = false → (∃ n r, o.frame = .flowSet n r) →
      exec (.openingMark (some header)) s = .next { s with slc := { s.slc with
        line := .other, own := none, hearing := heard s header, turnFlow := false } })) ∧
  ∀ (rival : Byte) (f : PartFrame) (rest : List PartFrame) (st : Station) (s : State), s.slc.line ≠ .own → s.slc.window = none →
    s.slc.sendList = f :: rest → s.station? f.slot = some st →
    let c := { s.slc with stuck := false, clears := [] }
    exec (.lineIdle (some rival)) s =
      .next (if rival.toNat < 2 * st.address then
          { s with slc := { c with line := .other, own := none, hearing := heard s rival, sendList := back f rest } }
        else { s with slc := { c with line := .own, hearing := .hearing, sendList := rest, own := some { frame := f, fromList := true } } })

/-- R101, R110, R115, R120: what an accepted frame of the part's does: a POLL opens the answer window, a STEP OFFER puts its step IN_PROGRESS and its
station WORKING, or HALTING after a plant stop (log entry 11), a FLOW SET and a HALT clear their owed marks. Its closing leaves the line IDLE (R112). -/
def Obligations.AcceptedFrames : Prop :=
  let closed := fun c : Slc => { c with line := .idle, own := none, stuck := false, clears := [], hearing := .hearing }
  (∀ (s : State) (n : Nat) (b : Bool) (st : Station), s.slc.own = some { frame := .poll n, fromList := b } → s.station? n = some st →
    exec (.poll .accepted) s = .next { s with slc := { closed s.slc with window := some n } }) ∧
  (∀ (s : State) (n rate : Nat) (b : Bool), s.slc.own = some { frame := .flowSet n rate, fromList := b } →
    exec (.flowSet .accepted) s = .next { s with
      dsp := { s.dsp with stations := s.dsp.stations.modify n (fun st => { st with failures := 0 }) }
      slc := { closed s.slc with flowOwed := s.slc.flowOwed.filter (fun m => m != n) } }) ∧
  (∀ (s : State) (n tok : Nat) (fg b : Bool), s.slc.own = some { frame := .halt n tok fg, fromList := b } →
    exec (.halt .accepted) s = .next { s with
      dsp := { s.dsp with stations := s.dsp.stations.modify n (fun st => { st with failures := 0 }) }
      slc := { closed s.slc with haltOwed := s.slc.haltOwed.filter (fun e => e.1 != n) } }) ∧
  ∀ (s : State) (n tok kind a b c d : Nat) (l : Bool) (st : Station) (h : Step) (q : List Step),
    s.slc.own = some { frame := .offer n tok kind a b c d, fromList := l } → s.station? n = some st → st.queue = h :: q → h.state = .offered →
    ∃ t, exec (.stepOffer .accepted) s = .next t ∧
      t.station? n = some { st with
        failures := 0, condition := .working
        queue := { h with state := if h.stopPending then .halting else .inProgress, stopPending := false } :: q } ∧
      (∀ m, m ≠ n → t.station? m = s.station? m) ∧
      t.slc = { closed s.slc with
        sendList := if h.stopPending then PartFrame.joins (.halt n (h.token.getD 0) false) s.slc.sendList else s.slc.sendList } ∧
      (st.condition ≠ .working → t.lnk = (s.report (.stationState
        { slot := n, condition := .working, hold := st.hold, toolLife := st.toolLife, toolLow := st.toolLow, reason := st.reason,
          steps := q.length + 1 })).lnk) ∧
      t.stk = s.stk ∧ t.job = s.job ∧ t.cst = s.cst ∧ t.wlc = s.wlc ∧ t.ppt = s.ppt

/-- R101, R115, R120: what a refused or failed frame of the part's does. A POLL's exchange ends; a step offered returns to QUEUED without its token and
its grant; a FLOW SET (while its grant is held, log entry 13) or a HALT is owed. A refusal leaves the count of failures, a failure adds one. -/
def Obligations.ReturnedFrames : Prop :=
  let closed := fun c : Slc => { c with line := .idle, own := none, stuck := false, clears := [], hearing := .hearing }
  (∀ (s : State) (n : Nat) (b : Bool) (st : Station) (e : FrameEnd), s.slc.own = some { frame := .poll n, fromList := b } →
    s.station? n = some st → e ≠ .accepted →
    ∃ t st', exec (.poll e) s = .next t ∧ t.station? n = some st' ∧ t.slc.window = none ∧
      t.slc.roundLeft = (if s.slc.roundLeft.erase n = [] ∧ s.slc.roundOwed = true then s.dsp.stations.map (·.1) else s.slc.roundLeft.erase n) ∧
      st'.failures = (if e = .failed ∧ st.failures < 3 then st.failures + 1 else st.failures)) ∧
  (∀ (s : State) (n tok kind a b c d : Nat) (l : Bool) (st : Station) (h : Step) (q : List Step) (e : FrameEnd),
    s.slc.own = some { frame := .offer n tok kind a b c d, fromList := l } → s.station? n = some st → st.queue = h :: q → h.state = .offered →
    e ≠ .accepted →
    ∃ t st' h' q', exec (.stepOffer e) s = .next t ∧ t.station? n = some st' ∧ st'.queue = h' :: q' ∧
      h'.number = h.number ∧ h'.kind = h.kind ∧ h'.state = .queued ∧ h'.token = none ∧ (h.grantHeld = true → h'.grantHeld = false) ∧
      (h.grantHeld = true → t.wlc.grants.get? n = none) ∧
      (e = .refused ∨ st.failures ≠ 2 → st'.reason = .line) ∧
      st'.failures = (if e = .failed ∧ st.failures < 3 then st.failures + 1 else st.failures) ∧
      ∀ j p, h.kind = .cut j p → ∀ e ∈ t.stk.slabs, ∀ x ∈ e.2.placements, x.job = j → x.piece = p → x.token = none) ∧
  (∀ (s : State) (n rate : Nat) (b : Bool) (st : Station), s.slc.own = some { frame := .flowSet n rate, fromList := b } →
    s.station? n = some st → s.wlc.grants.get? n ≠ none →
    exec (.flowSet .refused) s = .next { s with slc := { closed s.slc with flowOwed := insertSlot n s.slc.flowOwed } } ∧
    (st.failures < 2 → exec (.flowSet .failed) s = .next { s with
      dsp := { s.dsp with stations := s.dsp.stations.modify n (fun st => { st with failures := st.failures + 1 }) }
      slc := { closed s.slc with flowOwed := insertSlot n s.slc.flowOwed } })) ∧
  ∀ (s : State) (n tok : Nat) (fg b : Bool) (st : Station), s.slc.own = some { frame := .halt n tok fg, fromList := b } →
    s.station? n = some st →
    exec (.halt .refused) s = .next { s with slc := { closed s.slc with
      haltOwed := s.slc.haltOwed.put n { token := tok, foreign := fg } } } ∧
    (st.failures < 2 → exec (.halt .failed) s = .next { s with
      dsp := { s.dsp with stations := s.dsp.stations.modify n (fun st => { st with failures := st.failures + 1 }) }
      slc := { closed s.slc with haltOwed := s.slc.haltOwed.put n { token := tok, foreign := fg } } })

/-- R24, R26, R55, R56, R60, R61, R64 to R71, R73, R96, R104 to R107, R109, R186: a station's report that the part acknowledged ends its IN_PROGRESS, HALTING or
IN_DOUBT CUT as the tables of the rules say. The placement and its piece move, the job is charged under its rate set, at DONE the tool life falls by the
perimeter, the condition follows, and the step leaves its queue. What exceeds a cap goes to overhead, sets SATURATED, and under hold-on-saturate holds an OPEN job;
a rounding that discards something sets INEXACT. The reports stand in their order: RATE FLAG where SATURATED was clear, OVER ESTIMATE, STEP OUTCOME with the
cost figures; ahead of them only what the release of a grant places (log entry 45). A report the tables give no outcome leaves the step as it is, but WORKING with
the token of an IN_DOUBT step halts it; READY with another token resolves one as log entry 10 says. The token of the STEP OUTCOME is log entry 12. The premises on
other steps say that no other step names the piece or the number, and that a step which is out has no wait-list entry (R89, R90, R137); a job names one of the four
rate sets (R43). -/
def Obligations.ReportEndsCut : Prop :=
  ∀ (i : Instr) (f : StationFrame) (r : LineReportReq) (s : State) (n k j p id : Nat) (st : Station) (h : Step) (q : List Step) (pl : Placement)
    (pc : Piece) (jb : Job),
    ((i = .alert f ∧ f.kind = 0x09#8) ∨ (i = .state f ∧ f.kind = 0x08#8 ∧ s.slc.window = some n)) → s.slc.hearing = .hearing →
    f.body = .fields r → r.condition ≤ 3 → r.disposition ≤ 2 →
    s.slc.line ≠ .own → s.slotOfHeader f.header = some n → s.station? n = some st → st.queue = h :: q →
    (h.state = .inProgress ∨ h.state = .halting ∨ h.state = .inDoubt) → h.token = some k → 0 < k → h.kind = .cut j p →
    (∀ e ∈ s.dsp.stations, ∀ h' ∈ e.2.queue, h'.kind = .cut j p → e.1 = n ∧ h'.number = h.number) →
    (∀ h' ∈ q, h'.number ≠ h.number) → (∀ e ∈ s.wlc.waitList, e.slot ≠ n) →
    s.placement? j p = some (id, pl) → s.piece? j p = some pc → s.job? j = some jb → jb.rateSet ≤ 3 →
    let intact : PlacementState := if r.disposition = 1 then .planned else .broken
    let ending : Option (PlacementState × Condition) :=
      if r.condition = 2 ∧ f.token.toNat = k then some (.cut, .ready)
      else if r.condition = 3 ∧ (f.token.toNat = 0 ∨ f.token.toNat = k) then some (intact, .fault)
      else if r.condition = 0 ∧ f.token.toNat = k then some (intact, .ready)
      else if h.state = .inDoubt then
        if r.condition = 1 ∧ f.token.toNat = k then none else some (.broken, if r.condition = 3 then .fault else .ready)
      else if r.condition = 0 ∧ f.token.toNat = 0 then some (if h.state = .inProgress then .broken else intact, .ready)
      else none
    let lost := (h.state = .inProgress ∧ r.condition = 0 ∧ f.token.toNat = 0) ∨
      (h.state = .inDoubt ∧ f.token.toNat ≠ k ∧ ¬(r.condition = 3 ∧ f.token.toNat = 0))
    let seconds := if lost then 0 else min r.elapsed 65535
    let water := if h.grantHeld then
        (match s.cst.get? n with
          | some a => if a.step = h.number then
              min (h.water + min (a.total + a.rate * (s.clk.running - a.start) * 100 / 60) 4294967295) 4294967295 else h.water
          | none => h.water)
      else h.water
    let rs := s.rateSet jb.rateSet
    let done := r.condition = 2 ∧ f.token.toNat = k
    let length := if done then 2 * (pl.w + pl.h) else 0
    let machine := roundPart rs.rounding (seconds * rs.machineRate st.cls) 3600
    let waterPart := roundPart rs.rounding (water * rs.water) 10000
    let tool := roundPart rs.rounding (length * rs.toolRate st.cls) 1000
    let machineOver := jb.machine + machine.1 - 99999999
    let waterOver := jb.water + waterPart.1 - 99999999
    let toolOver := jb.tool + tool.1 - 99999999
    let beyond := machineOver + waterOver + toolOver
    let inexact := rs.inexact || machine.2 || waterPart.2 || tool.2
    let first : Accumulator := if 0 < machineOver then .machine else if 0 < waterOver then .water else .tool
    let machineSum := min (jb.machine + machine.1) 99999999
    let waterSum := min (jb.water + waterPart.1) 99999999
    let toolSum := min (jb.tool + tool.1) 99999999
    let passes := fun e : Nat => jb.overEstimate = false ∧ e < jb.material + machineSum + waterSum + toolSum
    let held := 0 < beyond ∧ rs.holdOnSaturate = true ∧ jb.state = .opened
    ∃ t, exec i s = .next t ∧
      (ending = none → h.state ≠ .inDoubt → t.head? n = some h) ∧
      (ending = none → h.state = .inDoubt → t.head? n = some { h with state := .halting, stopPending := false } ∧
        PartFrame.halt n k false ∈ t.slc.sendList ∧ ∃ st', t.station? n = some st' ∧ st'.condition = .working) ∧
      ∀ ps c, ending = some (ps, c) →
        t.placement? j p = some (id, { pl with state := ps, token := none }) ∧
        t.piece? j p = some { pc with state := ps.toPiece } ∧
        (∃ st', t.station? n = some st' ∧ st'.condition = c ∧ st'.failures = 0 ∧
          st'.toolLife = (if ps = .cut then st.toolLife - 2 * (pl.w + pl.h) else st.toolLife) ∧ ∀ h' ∈ st'.queue, h'.number ≠ h.number) ∧
        (∃ jb', t.job? j = some jb' ∧ jb'.material = jb.material ∧ jb'.machine = machineSum ∧ jb'.water = waterSum ∧ jb'.tool = toolSum ∧
          jb'.overEstimate = (jb.overEstimate || decide (∃ e ∈ jb.estimate, passes e)) ∧
          jb'.state = (if held then .held else jb.state) ∧ jb'.cause = (if held then some .saturated else jb.cause)) ∧
        (∀ m < 4, t.rateSet m = if m = jb.rateSet then { rs with inexact := inexact, saturated := rs.saturated || decide (0 < beyond) }
          else s.rateSet m) ∧
        t.job.overhead = (if beyond = 0 then s.job.overhead else min (s.job.overhead + beyond) 9999999999) ∧
        ∃ before after : List Report,
          t.lnk = ((before ++ (if 0 < beyond ∧ rs.saturated = false then [Report.rateFlag jb.rateSet inexact true (.job j first)] else []) ++
            (match jb.estimate with
              | none => []
              | some e => if passes e then [Report.overEstimate j e jb.material machineSum waterSum toolSum] else []) ++
            [Report.stepOutcome
              { slot := n, number := h.number, kind := 0, token := h.lastToken,
                outcome := if done then .done
                  else if h.state ≠ .halting ∧ r.condition = 3 ∧ (f.token.toNat = 0 ∨ f.token.toNat = k) then .faulted else .aborted
                disposition := if done then none else if ps = .planned then some .intact else some .broken
                job := j, piece := p, slabId := st.loaded.getD 0, seconds := seconds, water := water, toolLength := length,
                rateSet := some jb.rateSet, machinePart := machine.1, waterPart := waterPart.1, toolPart := tool.1,
                machineRest := machine.2, waterRest := waterPart.2, toolRest := tool.2,
                machineOver := machineOver, waterOver := waterOver, toolOver := toolOver, thickness := 0,
                valueA := false, mirroredA := false, valueB := false, mirroredB := false }] ++
            after).foldl (fun (s : State) r => s.report r) s).lnk ∧
          (h.grantHeld = false → before = []) ∧ ∀ x ∈ before ++ after, ∀ m a b what, x ≠ .rateFlag m a b what

/-- R60, R65, R67, R70, R72, R73, R104, R105, R109, R186: a TRIM or a PROBE that a station reports DONE is charged to the slab on the station under rate set 0, in
one addition; a probe's targets then say whether the thickness lay in its window, except a mirrored one. What exceeds the cap goes to overhead and sets SATURATED
in rate set 0, with a RATE FLAG report ahead of the STEP OUTCOME where it was clear, and a rounding that discards something sets INEXACT. The step is alone in its
queue, and being out it has no wait-list entry (R137). -/
def Obligations.DoneChargesSlab : Prop :=
  ∀ (i : Instr) (f : StationFrame) (r : LineReportReq) (s : State) (n k id : Nat) (st : Station) (h : Step) (sl : Slab),
    ((i = .alert f ∧ f.kind = 0x09#8) ∨ (i = .state f ∧ f.kind = 0x08#8 ∧ s.slc.window = some n)) → s.slc.hearing = .hearing →
    f.body = .fields r → r.condition = 2 → r.disposition ≤ 2 →
    s.slc.line ≠ .own → s.slotOfHeader f.header = some n → s.station? n = some st → st.queue = [h] →
    (h.state = .inProgress ∨ h.state = .halting ∨ h.state = .inDoubt) → h.token = some k → f.token.toNat = k → (∀ e ∈ s.wlc.waitList, e.slot ≠ n) →
    (∀ j p, h.kind ≠ .cut j p) → st.loaded = some id → s.slab? id = some sl →
    let rs := s.rateSet 0
    let len := match h.kind with
      | .trim len => len
      | _ => 0
    let water := if h.grantHeld then
        (match s.cst.get? n with
          | some a => if a.step = h.number then
              min (h.water + min (a.total + a.rate * (s.clk.running - a.start) * 100 / 60) 4294967295) 4294967295 else h.water
          | none => h.water)
      else h.water
    let machine := roundPart rs.rounding (min r.elapsed 65535 * rs.machineRate st.cls) 3600
    let waterPart := roundPart rs.rounding (water * rs.water) 10000
    let tool := roundPart rs.rounding (len * rs.toolRate st.cls) 1000
    let sum := machine.1 + waterPart.1 + tool.1
    let beyond := sl.carried + sum - 99999999
    let inexact := rs.inexact || machine.2 || waterPart.2 || tool.2
    ∃ t, exec i s = .next t ∧
      (∃ sl', t.slab? id = some sl' ∧ sl'.carried = min (sl.carried + sum) 99999999 ∧
        sl'.capped = (sl.capped || decide (99999999 < sl.carried + sum))) ∧
      (∃ st', t.station? n = some st' ∧ st'.condition = .ready ∧ st'.toolLife = st.toolLife - len ∧ st'.queue = [] ∧ st'.loaded = some id) ∧
      (∀ m < 4, t.rateSet m =
        if m = 0 then { rs with inexact := inexact, saturated := rs.saturated || decide (0 < beyond) } else s.rateSet m) ∧
      t.job.overhead = min (s.job.overhead + beyond) 9999999999 ∧
      (∃ (before after : List Report) (o : OutcomeRecord),
        t.lnk = ((before ++ (if 0 < beyond ∧ rs.saturated = false then [Report.rateFlag 0 inexact true (.slab id)] else []) ++ [Report.stepOutcome o] ++
          after).foldl (fun (s : State) r => s.report r) s).lnk ∧
        (o.slot = n ∧ o.number = h.number ∧ o.kind = h.kind.code ∧ o.outcome = .done ∧ o.disposition = none ∧ o.job = 0 ∧ o.piece = 0 ∧ o.slabId = id) ∧
        (o.seconds = min r.elapsed 65535 ∧ o.water = water ∧ o.toolLength = len ∧ o.rateSet = some 0 ∧ o.machinePart = machine.1 ∧
          o.waterPart = waterPart.1 ∧ o.toolPart = tool.1 ∧ o.machineRest = machine.2 ∧ o.waterRest = waterPart.2 ∧ o.toolRest = tool.2 ∧
          o.machineOver = beyond ∧ o.waterOver = 0 ∧ o.toolOver = 0) ∧
        (h.grantHeld = false → before = []) ∧ ∀ x ∈ before ++ after, ∀ m a b what, x ≠ .rateFlag m a b what) ∧
      (h.grantHeld = false → t.job.jobs = s.job.jobs ∧
        ∀ lo hi a b form, h.kind = .probe lo hi a b form → 0 < a → 0 < b → a < 16 → b < 16 → a ≠ b →
          t.flag a = (if s.mirrored a then s.flag a else decide (lo ≤ r.thickness ∧ r.thickness ≤ hi)) ∧
          t.flag b = (if s.mirrored b then s.flag b else !decide (lo ≤ r.thickness ∧ r.thickness ≤ hi)))

/-- R103: a report while no step of the station is out acts on its condition, and a station newly heard that is WORKING is halted. A report of
FAULT while the head is OFFERED ends the offer, and any other leaves it. -/
def Obligations.IdleReportSetsCondition : Prop :=
  ∀ (i : Instr) (f : StationFrame) (r : LineReportReq) (s : State) (n : Nat) (st : Station),
    ((i = .alert f ∧ f.kind = 0x09#8) ∨ (i = .state f ∧ f.kind = 0x08#8 ∧ s.slc.window = some n)) → s.slc.hearing = .hearing →
    f.body = .fields r → r.condition ≤ 3 → r.disposition ≤ 2 →
    s.slc.line ≠ .own → s.slotOfHeader f.header = some n → s.station? n = some st →
    ((∀ h, st.queue.head? = some h → h.state = .queued ∨ h.state = .waitingWater) →
      ∃ t st', exec i s = .next t ∧ t.station? n = some st' ∧ st'.failures = 0 ∧
        st'.condition = (match st.condition with
          | .offline | .unreachable | .ready =>
            if r.condition = 3 then .fault else .ready
          | c => c) ∧
        ((st.condition = .offline ∨ st.condition = .unreachable) → r.condition = 1 → PartFrame.halt n f.token.toNat true ∈ t.slc.sendList)) ∧
    ∀ h q, st.queue = h :: q → h.state = .offered →
      ∃ t, exec i s = .next t ∧
        (r.condition ≠ 3 → t.head? n = some h) ∧
        (r.condition = 3 → ∃ st' h' q', t.station? n = some st' ∧ st'.condition = .fault ∧ st'.queue = h' :: q' ∧ h'.number = h.number ∧
          h'.state = .queued ∧ h'.token = none ∧ ∀ g ∈ t.slc.sendList, g.isOfferTo n = false)

/-- R108, R114, R119, R120: an exchange with no answer, a frame that fails by time, once, and one whose header the part did not acknowledge each count one
failure, no more than three; the third makes the station UNREACHABLE, and a step that was with it IN_DOUBT with its token. A frame that the part stopped
acknowledging, for its kind, its body or a restart, is refused and counts none. A frame that failed by time leaves the line OTHER (log entry 25). -/
def Obligations.FailuresCount : Prop :=
  ∀ (s : State) (n : Nat) (st : Station), s.station? n = some st →
    let counted := fun t : State => ∃ st', t.station? n = some st' ∧
      st'.failures = (if st.failures < 3 then st.failures + 1 else st.failures) ∧ (st.failures = 2 → st'.condition = .unreachable) ∧
      ∀ h q, st.failures = 2 → st.condition ≠ .unreachable → st.queue = h :: q → h.state = .inProgress ∨ h.state = .halting →
        ∃ h' q', st'.queue = h' :: q' ∧ h'.number = h.number ∧ h'.state = .inDoubt ∧ h'.token = h.token
    let left := if s.slc.roundLeft.erase n = [] ∧ s.slc.roundOwed = true then s.dsp.stations.map (·.1) else s.slc.roundLeft.erase n
    let closed := { s.slc with line := .idle, stuck := false, clears := [], hearing := .hearing }
    (s.slc.window = some n → s.slc.line = .idle → ∃ t, exec .answerWindowTimeout s = .next t ∧ counted t ∧ t.slc.window = none ∧
      t.slc.roundLeft = left) ∧
    (∀ (i : Instr) (header : Option Byte), (i = .holdLimit header ∨ i = .frameTimeLimit header) →
      (s.slc.own = none → header = none → exec i s = .next { s with slc := { s.slc with line := .other } }) ∧
      (∀ b, s.slc.own = none → header = some b → s.slotOfHeader b = some n →
        (s.slc.hearing ≠ .failed → ∃ t, exec i s = .next t ∧ counted t ∧ t.slc.line = .other ∧ t.slc.hearing = .failed ∧
          t.slc.window = (if s.slc.window = some n then none else s.slc.window)) ∧
        (s.slc.hearing = .failed → exec i s = .next { s with slc := { s.slc with line := .other } })) ∧
      (∀ b, s.slc.own = some { frame := .poll n, fromList := b } → ∃ t, exec i s = .next t ∧ counted t ∧ t.slc.line = .other ∧
        t.slc.own = none ∧ t.slc.roundLeft = left)) ∧
    ∀ (i : Instr) (f : StationFrame), ((i = .state f ∧ f.kind ≠ 0x09#8) ∨ (i = .alert f ∧ f.kind = 0x09#8)) → s.slc.line ≠ .own →
      s.slotOfHeader f.header = some n →
      let declinedKind := f.kind ≠ 0x09#8 ∧ (f.kind ≠ 0x08#8 ∨ s.slc.window ≠ some n)
      let declinedBody := (∃ r, f.body = .fields r ∧ (3 < r.condition ∨ 2 < r.disposition)) ∨ ∃ bs, f.body = .raw bs ∧ bs.length ≠ 8
      (s.slc.hearing = .unheard → ∃ t, exec i s = .next t ∧ counted t ∧ t.slc.line = .idle ∧
        t.slc.window = (if s.slc.window = some n then none else s.slc.window)) ∧
      (s.slc.hearing = .declined ∨ (s.slc.hearing = .hearing ∧ (declinedKind ∨ declinedBody)) →
        (s.slc.window ≠ some n → exec i s = .next { s with slc := closed }) ∧
        (s.slc.window = some n → ∃ t st', exec i s = .next t ∧ t.station? n = some st' ∧ st'.failures = st.failures ∧ t.slc.line = .idle ∧
          t.slc.window = none ∧ t.slc.roundLeft = left)) ∧
      (s.slc.hearing = .failed → exec i s = .next { s with slc := closed })

/-! ### The plant port -/

/-- R156, R157, R159, R160, R164, R167: writing a latch stores it, and a point that drives its latch takes it at once; writing invert keeps the level of a
point that drives, whose wire then changes, and reads the plant's value anew on one that does not; writing a watch changes nothing else. A change of level
fires the point's watch, and a point out of FUNCTION mode hands it to nothing. A point above 31 or a value outside its list is refused. -/
def Obligations.PointWrites : Prop :=
  ∀ (tag : Byte) (i v : Nat) (s : State), s.takesAtOnce →
    (31 < i ∨ 1 < v → exec (.pointSet tag (.fields ⟨i, v⟩)) s = .next (State.addReply 0xE1#8 tag ⟨.badValue, []⟩ s) ∧
      exec (.pointInvert tag (.fields ⟨i, v⟩)) s = .next (State.addReply 0xE4#8 tag ⟨.badValue, []⟩ s)) ∧
    (31 < i ∨ 3 < v → exec (.edgeWatch tag (.fields ⟨i, v⟩)) s = .next (State.addReply 0xE5#8 tag ⟨.badValue, []⟩ s)) ∧
    (i < 32 →
    let edge := fun (lv : Bool) (p : Point) =>
      if lv ≠ (s.point i).level ∧ p.watch.fires lv = true then (s.report (.pointEdge i lv p.mode (s.driveSource i) s.clk.shop)).lnk else s.lnk
    (v ≤ 1 →
      let lv := match s.driveSource i with
        | .none => (s.point i).plant != (s.point i).invert
        | .latch => v == 1
        | .function => s.functionLevel i
      exec (.pointSet tag (.fields ⟨i, v⟩)) s = .next (State.addReply 0xE1#8 tag ⟨.ok, []⟩
        { s with ppt := { points := s.ppt.points.setIfInBounds i { s.point i with latch := v == 1, level := lv } }, lnk := edge lv (s.point i) })) ∧
    (v ≤ 1 →
      let lv := match s.driveSource i with
        | .none => (s.point i).plant != (v == 1)
        | .latch => (s.point i).latch
        | .function => s.functionLevel i
      (∃ t, exec (.pointInvert tag (.fields ⟨i, v⟩)) s = .next (State.addReply 0xE4#8 tag ⟨.ok, []⟩ t) ∧
        t.point i = { s.point i with invert := v == 1, level := lv } ∧
        (s.driveSource i ≠ .none → (s.point i).level = lv → (s.point i).invert ≠ (v == 1) → (t.point i).wire = !(s.point i).wire)) ∧
      ((s.point i).mode ≠ .function ∨ i < 12 ∨ lv = (s.point i).level →
        exec (.pointInvert tag (.fields ⟨i, v⟩)) s = .next (State.addReply 0xE4#8 tag ⟨.ok, []⟩
          { s with ppt := { points := s.ppt.points.setIfInBounds i { s.point i with invert := v == 1, level := lv } }, lnk := edge lv (s.point i) }))) ∧
    (∀ w, Watch.code w = v →
      exec (.edgeWatch tag (.fields ⟨i, v⟩)) s = .next (State.addReply 0xE5#8 tag ⟨.ok, []⟩
        { s with ppt := { points := s.ppt.points.setIfInBounds i { s.point i with watch := w } } })))

/-- R159, R160, R167: BANK WRITE stores eight latches, each point that drives its latch takes its value, and a change of level fires the point's watch, in
ascending position. No other point and no other block changes. A bank or a latch value out of range refuses the whole. -/
def Obligations.BankWritten : Prop :=
  ∀ (tag : Byte) (bank : Nat) (ls : List Nat) (s : State), s.takesAtOnce →
    (bank ≤ 3 → ls.length = 8 → (∀ v ∈ ls, v ≤ 1) →
      let level := fun k => match s.driveSource (8 * bank + k) with
        | .none => (s.point (8 * bank + k)).plant != (s.point (8 * bank + k)).invert
        | .latch => ls[k]?.getD 0 == 1
        | .function => s.functionLevel (8 * bank + k)
      let told := fun (u : State) (k : Nat) =>
        let p := s.point (8 * bank + k)
        if level k ≠ p.level ∧ p.watch.fires (level k) = true then
          u.report (.pointEdge (8 * bank + k) (level k) p.mode (s.driveSource (8 * bank + k)) s.clk.shop)
        else u
      ∃ t, exec (.bankWrite tag (.fields ⟨bank, ls⟩)) s = .next (State.addReply 0xE0#8 tag ⟨.ok, []⟩ t) ∧
        (∀ k < 8, t.point (8 * bank + k) = { s.point (8 * bank + k) with latch := ls[k]?.getD 0 == 1, level := level k }) ∧
        (∀ i, i / 8 ≠ bank → t.point i = s.point i) ∧ t.lnk = ((List.range 8).foldl told s).lnk ∧
        t.stk = s.stk ∧ t.pln = s.pln ∧ t.job = s.job ∧ t.cst = s.cst ∧ t.dsp = s.dsp ∧ t.slc = s.slc ∧ t.wlc = s.wlc ∧ t.clk = s.clk) ∧
    (3 < bank ∨ (∃ v ∈ ls, 1 < v) → exec (.bankWrite tag (.fields ⟨bank, ls⟩)) s = .next (State.addReply 0xE0#8 tag ⟨.badValue, []⟩ s))

/-- R156, R157, R162, R163, R166: POINT MODE. What is refused and why, and what an accepted change of mode does to the point, to the flag that a C point
mirrors, to a wait-list entry whose valve leaves FUNCTION, to the sump-high mark and to the plant at B7. A point that stops driving has the plant's value
through invert at once (log entry 9). -/
def Obligations.ModeChange : Prop :=
  ∀ (tag : Byte) (i c : Nat) (s : State), s.takesAtOnce →
    (31 < i ∨ (∀ m : PointMode, m.code ≠ c) → exec (.pointMode tag (.fields ⟨i, c⟩)) s = .next (State.addReply 0xE3#8 tag ⟨.badValue, []⟩ s)) ∧
    ∀ m : PointMode, i < 32 → m.code = c →
    let inUse := (i < 8 ∧ s.wlc.grants.get? (i + 1) ≠ none) ∨ (i = 8 ∧ s.wlc.pumpRunning = true) ∨ ((i = 9 ∨ i = 11) ∧ s.wlc.purgeEnd ≠ none) ∨
      (i = 10 ∧ s.wlc.makeupOpen = true) ∨ (i = 15 ∧ s.wlc.state ≠ .off ∧ s.wlc.state ≠ .stopped)
    (m = .function → 24 ≤ i → exec (.pointMode tag (.fields ⟨i, c⟩)) s = .next (State.addReply 0xE3#8 tag ⟨.badValue, []⟩ s)) ∧
    ((m = .function → i < 24) → (s.point i).mode = m →
      exec (.pointMode tag (.fields ⟨i, c⟩)) s = .next (State.addReply 0xE3#8 tag ⟨.ok, []⟩ s)) ∧
    (m ≠ .function → (s.point i).mode = .function → inUse →
      exec (.pointMode tag (.fields ⟨i, c⟩)) s = .next (State.addReply 0xE3#8 tag ⟨.inUse, []⟩ s)) ∧
    ((m = .function → i < 24) → (s.point i).mode ≠ m → ((s.point i).mode = .function → ¬inUse) →
      ∃ t, exec (.pointMode tag (.fields ⟨i, c⟩)) s = .next (State.addReply 0xE3#8 tag ⟨.ok, []⟩ t) ∧
        (t.point i).mode = m ∧ (t.point i).latch = (s.point i).latch ∧ (t.point i).invert = (s.point i).invert ∧
        (t.point i).watch = (s.point i).watch ∧ (t.point i).plant = (s.point i).plant ∧
        (m = .output → (t.point i).level = (s.point i).latch ∧ (t.point i).wire = ((s.point i).latch != (s.point i).invert)) ∧
        (m = .input ∨ (m = .function ∧ 12 ≤ i) →
          (t.point i).level = ((s.point i).plant != (s.point i).invert) ∧ (t.point i).wire = (s.point i).plant) ∧
        (∀ k, k ≠ i → (t.point k).mode = (s.point k).mode ∧ (t.point k).latch = (s.point k).latch ∧ (t.point k).invert = (s.point k).invert ∧
          (t.point k).watch = (s.point k).watch ∧ (t.point k).plant = (s.point k).plant) ∧
        (m = .function → 16 ≤ i → i < 24 → t.flag (i - 8) = ((s.point i).plant != (s.point i).invert)) ∧
        (m ≠ .function → 16 ≤ i → t.dsp = s.dsp) ∧
        ((s.point i).mode = .function → i < 8 → ∀ e ∈ t.wlc.waitList, e.slot ≠ i + 1) ∧
        ((s.point i).mode = .function → i = 14 → t.wlc.sumpHigh = false) ∧
        (m = .function → i = 14 → (s.point i).plant ≠ (s.point i).invert → t.wlc.sumpHigh = true) ∧
        (m = .function → i = 15 → (s.point i).plant ≠ (s.point i).invert → s.wlc.state ≠ .off → t.wlc.state = .stopped))

/-- R144, R153, R157, R165 to R167: a wire that has held a new value is the level of a point that does not drive, through invert; a point that drives
keeps the level it drives (log entry 9). A change of level fires the watch, and in FUNCTION mode it counts a makeup pulse at B4, makes a purge due at B5,
is the sump-high mark at B6, and is copied into its flag at a C point. -/
def Obligations.WireChangeTaken : Prop :=
  ∀ (i : Fin 32) (high : Bool) (s : State),
    let p := s.point i.val
    let lv := match s.driveSource i.val with
      | .none => high != p.invert
      | .latch => p.latch
      | .function => s.functionLevel i.val
    ∃ t, exec (.pointLevelChange i high) s = .next t ∧
      t.point i.val = { p with plant := high, level := lv } ∧
      (p.mode ≠ .function ∨ lv = p.level → t = { s with
        ppt := { points := s.ppt.points.setIfInBounds i.val { p with plant := high, level := lv } }
        lnk := if lv ≠ p.level ∧ p.watch.fires lv = true then (s.report (.pointEdge i.val lv p.mode (s.driveSource i.val) s.clk.shop)).lnk else s.lnk }) ∧
      (p.mode = .function → lv ≠ p.level →
        (i.val = 12 → t.job.makeup = (if lv then min (s.job.makeup + s.wlc.settings.pulse) 999999999 else s.job.makeup) ∧ t.wlc = s.wlc) ∧
        (i.val = 13 → t.wlc.due = (s.wlc.due || (lv && s.wlc.settings.purgeEnabled && decide (s.wlc.state ≠ .off) && s.wlc.purgeEnd.isNone))) ∧
        (i.val = 14 → t.wlc.sumpHigh = lv ∧ t.wlc.state = s.wlc.state) ∧
        (16 ≤ i.val → i.val < 24 → t.flag (i.val - 8) = lv ∧ (∀ k, k ≠ i.val - 8 → t.flag k = s.flag k) ∧ t.wlc = s.wlc ∧ t.slc = s.slc) ∧
        (i.val < 12 → t.wlc = s.wlc ∧ t.dsp = s.dsp ∧ t.slc = s.slc))

/-- R110, R116, R154: B7 becoming active in FUNCTION mode stops the plant in every loop state but OFF and STOPPED: every grant and wait-list entry is gone, a
purge and priming are abandoned, the loop's outputs take their off levels, and every IN_PROGRESS head is halted. The count and the due mark stand. On an empty send list the
frames of the one event stand in ascending slot order. -/
def Obligations.PlantStops : Prop :=
  ∀ (high : Bool) (s : State), (s.point 15).mode = .function → (s.point 15).level = false → high ≠ (s.point 15).invert →
    s.wlc.state ≠ .off → s.wlc.state ≠ .stopped →
    ∃ t, exec (.pointLevelChange 15 high) s = .next t ∧
      (t.wlc.state = .stopped ∧ t.wlc.deferred = .none ∧ t.wlc.handover = none ∧ t.wlc.grants = [] ∧ t.wlc.waitList = [] ∧ t.wlc.purgeEnd = none ∧
        t.wlc.priming = none ∧ t.wlc.makeupOpen = false) ∧
      (t.wlc.minutes = s.wlc.minutes ∧ t.wlc.seconds = s.wlc.seconds ∧ t.wlc.due = s.wlc.due ∧ t.wlc.throttled = s.wlc.throttled ∧
        t.wlc.settings = s.wlc.settings) ∧
      (∀ i < 12, (s.point i).mode = .function → (t.point i).level = false) ∧
      (∀ n h, s.head? n = some h → h.state = .inProgress →
        ∃ h', t.head? n = some h' ∧ h'.number = h.number ∧ h'.state = .halting ∧ h'.token = h.token ∧
          PartFrame.halt n (h.token.getD 0) false ∈ t.slc.sendList) ∧
      (s.slc.sendList = [] → t.slc.sendList.Pairwise (fun f g => f.slot ≤ g.slot)) ∧
      (∀ n h, s.head? n = some h → h.state = .halting ∨ h.state = .inDoubt → ∃ h', t.head? n = some h' ∧ h'.number = h.number ∧ h'.state = h.state) ∧
      (s.wlc.grants = [] → s.lnk.reportCount < 16 →
        OutFrame.report s.clk.shop (.plantStop s.wlc.state 0 s.wlc.purgeEnd.isSome s.wlc.minutes) ∈ t.lnk.out)

/-! ### The stock and the yard -/

/-- R5, R7: the location decode. A floor code is its station's floor; another code is the lowest-numbered enabled window that has the base's digit at
every place where the mask has a zero, and the default zone where no enabled window does. LOCATE answers with it (R9; its bytes: log entry 31) and changes
nothing. DEFAULT ZONE SET, where it clamps nothing, answers OK with the settings as applied too (log entry 33). -/
def Obligations.LocationDecode : Prop :=
  ∀ (s : State) (code : Nat),
    let hit := fun z : ZoneWindow => z.enabled = true ∧ ∀ i < 16, z.mask.testBit i = false → code.testBit i = z.base.testBit i
    (65281 ≤ code → code ≤ 65288 → s.decode code = .floor (code - 65280)) ∧
    (¬(65281 ≤ code ∧ code ≤ 65288) →
      (∀ k : Fin 8, hit s.stk.zones[k] → (∀ j : Fin 8, j < k → ¬hit s.stk.zones[j]) → s.decode code = .window (k.val + 1) s.stk.zones[k]) ∧
      ((∀ k : Fin 8, ¬hit s.stk.zones[k]) → s.decode code = .default s.stk.defaultZone)) ∧
    ∀ tag : Byte, s.takesAtOnce →
      exec (.locate tag (.fields ⟨code⟩)) s = .next (State.addReply 0x96#8 tag ⟨.ok, (s.decode code).bytes⟩ s) ∧
      ∀ (r : DefaultZoneSetReq) (kind : ZoneKind) (search : Bool), kind.code = r.kind → search.toNat = r.search → r.charge ≤ 99999 →
        exec (.defaultZoneSet tag (.fields r)) s = .next (State.addReply 0x98#8 tag ⟨.ok, u8 r.kind ++ u8 r.search ++ u32 r.charge⟩
          { s with stk := { s.stk with defaultZone := { kind := kind, search := search, charge := r.charge } } })

/-- R8, R185: ZONE SET and DEFAULT ZONE SET write every setting at once, with the charge cut to 99,999, and answer with the settings
as applied, ZONE SET always (R9) and DEFAULT ZONE SET where it clamps; a value outside its list refuses the whole. No slab and no account changes. -/
def Obligations.ZonesWritten : Prop :=
  ∀ (tag : Byte) (s : State), s.takesAtOnce →
    (∀ (r : ZoneSetReq) (kind : ZoneKind) (search enabled : Bool), 1 ≤ r.window → r.window ≤ 8 → kind.code = r.kind →
      search.toNat = r.search → enabled.toNat = r.enabled →
      let z : ZoneWindow := { base := r.base, mask := r.mask, kind := kind, search := search, charge := min r.charge 99999, enabled := enabled }
      exec (.zoneSet tag (.fields r)) s = .next (State.addReply 0x97#8 tag
        ⟨if r.charge ≤ 99999 then .ok else .adjusted,
          u16 r.base ++ u16 r.mask ++ u8 r.kind ++ u8 r.search ++ u32 (min r.charge 99999) ++ u8 r.enabled⟩
        { s with stk := { s.stk with zones := s.stk.zones.setIfInBounds (r.window - 1) z } })) ∧
    (∀ r : ZoneSetReq, (r.window < 1 ∨ 8 < r.window ∨ 1 < r.kind ∨ 1 < r.search ∨ 1 < r.enabled) →
      exec (.zoneSet tag (.fields r)) s = .next (State.addReply 0x97#8 tag ⟨.badValue, []⟩ s)) ∧
    (∀ (r : DefaultZoneSetReq) (kind : ZoneKind) (search : Bool), kind.code = r.kind → search.toNat = r.search →
      ∃ results, (99999 < r.charge → results = u8 r.kind ++ u8 r.search ++ u32 99999) ∧
      exec (.defaultZoneSet tag (.fields r)) s = .next (State.addReply 0x98#8 tag ⟨if r.charge ≤ 99999 then .ok else .adjusted, results⟩
        { s with stk := { s.stk with defaultZone := { kind := kind, search := search, charge := min r.charge 99999 } } })) ∧
    ∀ r : DefaultZoneSetReq, (1 < r.kind ∨ 1 < r.search) →
      exec (.defaultZoneSet tag (.fields r)) s = .next (State.addReply 0x98#8 tag ⟨.badValue, []⟩ s)

/-- R4, R11: SLAB RECEIVE refuses at its first failing check with nothing changed, and otherwise creates a RECEIVED record whose carried cost is the
purchase cost plus the zone's charge, cut at the cap with the excess sent to overhead. The reply is OK, and carries the cost and the mark where the cap is
met. -/
def Obligations.SlabReceipt : Prop :=
  ∀ (tag : Byte) (r : SlabReceiveReq) (s : State), s.takesAtOnce →
    let valid := (1 ≤ r.slabId ∧ r.slabId ≤ 99999999) ∧ (1 ≤ r.material ∧ r.material ≤ 65535) ∧ (50 ≤ r.thickness ∧ r.thickness ≤ 1000) ∧
      (100 ≤ r.xExt ∧ r.xExt ≤ 3600) ∧ (100 ≤ r.yExt ∧ r.yExt ≤ 2200) ∧ r.trim ≤ 50 ∧ r.cost ≤ 99999999
    let floor := 65281 ≤ r.location ∧ r.location ≤ 65288
    let sum := r.cost + (s.decode r.location).charge
    let entered : Slab :=
      { kind := .slab, parent := none, material := r.material, thickness := r.thickness, xExt := r.xExt, yExt := r.yExt, trim := r.trim,
        location := r.location, state := .received, defects := [], placements := [], carried := min sum 99999999,
        capped := decide (99999999 < sum), loadedOn := none }
    ∃ results, (99999999 < sum → results = u32 99999999 ++ mark true) ∧
    exec (.slabReceive tag (.fields r)) s =
      if ¬valid then .next (State.addReply 0x90#8 tag ⟨.badValue, []⟩ s)
      else if s.slab? r.slabId ≠ none then .next (State.addReply 0x90#8 tag ⟨.duplicate, []⟩ s)
      else if floor then .next (State.addReply 0x90#8 tag ⟨.zone, []⟩ s)
      else if 256 ≤ s.stk.slabs.length then .next (State.addReply 0x90#8 tag ⟨.full, []⟩ s)
      else .next (State.addReply 0x90#8 tag ⟨.ok, results⟩
        { s with
          stk := { s.stk with slabs := s.stk.slabs.put r.slabId entered }
          job := { s.job with overhead := min (s.job.overhead + (sum - 99999999)) 9999999999 } })

/-- R12, R13, R176: SLAB DEFECT appends its window to a RECEIVED or AVAILABLE slab and SLAB RELEASE makes a RECEIVED slab AVAILABLE, each after its checks in
their order. An id out of range is refused first (log entry 21). An accepted SLAB RECEIVE that meets no cap answers with the carried cost and the clear
cost-capped mark too (R11, log entry 42). -/
def Obligations.SlabPreparation : Prop :=
  ∀ (tag : Byte) (s : State), s.takesAtOnce →
    (∀ r : SlabDefectReq, exec (.slabDefect tag (.fields r)) s =
      if ¬(1 ≤ r.slabId ∧ r.slabId ≤ 99999999) then .next (State.addReply 0x91#8 tag ⟨.badValue, []⟩ s)
      else match s.slab? r.slabId with
      | none => .next (State.addReply 0x91#8 tag ⟨.notFound, []⟩ s)
      | some sl =>
        if sl.state = .allocated ∨ sl.state = .loaded then .next (State.addReply 0x91#8 tag ⟨.wrongState, []⟩ s)
        else if ¬(r.x0 < r.x1 ∧ r.x1 ≤ sl.xExt ∧ r.y0 < r.y1 ∧ r.y1 ≤ sl.yExt) then .next (State.addReply 0x91#8 tag ⟨.badValue, []⟩ s)
        else if 6 ≤ sl.defects.length then .next (State.addReply 0x91#8 tag ⟨.full, []⟩ s)
        else
          let enter := fun x : Slab => { x with defects := x.defects ++ [⟨r.x0, r.y0, r.x1, r.y1⟩] }
          .next (State.addReply 0x91#8 tag ⟨.ok, []⟩ { s with stk := { s.stk with slabs := s.stk.slabs.modify r.slabId enter } })) ∧
    (∀ r : SlabIdReq, exec (.slabRelease tag (.fields r)) s =
      if ¬(1 ≤ r.slabId ∧ r.slabId ≤ 99999999) then .next (State.addReply 0x92#8 tag ⟨.badValue, []⟩ s)
      else match s.slab? r.slabId with
      | none => .next (State.addReply 0x92#8 tag ⟨.notFound, []⟩ s)
      | some sl =>
        if sl.state ≠ .received then .next (State.addReply 0x92#8 tag ⟨.wrongState, []⟩ s)
        else .next (State.addReply 0x92#8 tag ⟨.ok, []⟩
          { s with stk := { s.stk with slabs := s.stk.slabs.modify r.slabId (fun x => { x with state := .available }) } })) ∧
    ∀ r : SlabReceiveReq,
      (1 ≤ r.slabId ∧ r.slabId ≤ 99999999) → (1 ≤ r.material ∧ r.material ≤ 65535) → (50 ≤ r.thickness ∧ r.thickness ≤ 1000) →
      (100 ≤ r.xExt ∧ r.xExt ≤ 3600) → (100 ≤ r.yExt ∧ r.yExt ≤ 2200) → r.trim ≤ 50 → ¬(65281 ≤ r.location ∧ r.location ≤ 65288) →
      s.slab? r.slabId = none → s.stk.slabs.length < 256 → r.cost + (s.decode r.location).charge ≤ 99999999 →
      ∃ t, exec (.slabReceive tag (.fields r)) s =
        .next (State.addReply 0x90#8 tag ⟨.ok, u32 (r.cost + (s.decode r.location).charge) ++ mark false⟩ t)

/-- R3, R4, R14, R16, R86, R176: SLAB MOVE takes a slab that is not LOADED to its destination and pays the destination's charge; LOAD puts one on an empty station,
LOADED, its location the station's floor, and it pays the load charge; SLAB SCRAP takes a slab never cut out of the table, its cost to overhead, with its
SLAB SETTLED report. Each charge is cut at the cap with the excess to overhead, and each request has its checks in their order, an id or a slot out
of range first (log entry 21). The overhead-capped mark is set where cents are lost (log entry 17), and the reply of SLAB MOVE carries the whole decode
(log entry 31). -/
def Obligations.SlabMovedLoadedScrapped : Prop :=
  ∀ (tag : Byte) (s : State) (id : Nat), s.takesAtOnce →
    (∀ location, exec (.slabMove tag (.fields ⟨id, location⟩)) s =
      if ¬(1 ≤ id ∧ id ≤ 99999999) then .next (State.addReply 0x93#8 tag ⟨.badValue, []⟩ s)
      else match s.slab? id with
      | none => .next (State.addReply 0x93#8 tag ⟨.notFound, []⟩ s)
      | some sl =>
        let sum := sl.carried + (s.decode location).charge
        if sl.state = .loaded then .next (State.addReply 0x93#8 tag ⟨.wrongState, []⟩ s)
        else if 65281 ≤ location ∧ location ≤ 65288 then .next (State.addReply 0x93#8 tag ⟨.zone, []⟩ s)
        else
          let move := fun x : Slab =>
            { x with location := location, carried := min sum 99999999, capped := x.capped || decide (99999999 < sum) }
          .next (State.addReply 0x93#8 tag ⟨.ok, u16 location ++ (s.decode location).bytes ++ u32 (min sum 99999999)⟩
          { s with
            stk := { s.stk with slabs := s.stk.slabs.modify id move }
            job := { s.job with overhead := min (s.job.overhead + (sum - 99999999)) 9999999999 } })) ∧
    (∀ n : Nat,
      (¬(1 ≤ n ∧ n ≤ 8 ∧ 1 ≤ id ∧ id ≤ 99999999) → exec (.load tag (.fields ⟨n, id⟩)) s = .next (State.addReply 0xC3#8 tag ⟨.badValue, []⟩ s)) ∧
      (1 ≤ n ∧ n ≤ 8 ∧ 1 ≤ id ∧ id ≤ 99999999 → s.station? n = none ∨ s.slab? id = none →
        exec (.load tag (.fields ⟨n, id⟩)) s = .next (State.addReply 0xC3#8 tag ⟨.notFound, []⟩ s)) ∧
      ∀ st sl, 1 ≤ n ∧ n ≤ 8 ∧ 1 ≤ id ∧ id ≤ 99999999 → s.station? n = some st → s.slab? id = some sl →
        let sum := sl.carried + st.loadCharge
        let put := fun x : Slab =>
          { x with location := 65280 + n, state := .loaded, loadedOn := some n, carried := min sum 99999999, capped := x.capped || decide (99999999 < sum) }
        let take := fun x : Station => { x with loaded := some id }
        exec (.load tag (.fields ⟨n, id⟩)) s = .next (
          if st.condition ≠ .ready ∧ st.condition ≠ .offline then State.addReply 0xC3#8 tag ⟨.wrongState, []⟩ s
          else if st.loaded ≠ none then State.addReply 0xC3#8 tag ⟨.wrongState, []⟩ s
          else if sl.state ≠ .available ∧ sl.state ≠ .allocated then State.addReply 0xC3#8 tag ⟨.wrongState, []⟩ s
          else if s.inQuarantine sl = true then State.addReply 0xC3#8 tag ⟨.zone, []⟩ s
          else State.addReply 0xC3#8 tag ⟨.ok, u32 id ++ u16 (65280 + n) ++ u32 (min sum 99999999)⟩ { s with
            stk := { s.stk with slabs := s.stk.slabs.modify id put }
            dsp := { s.dsp with stations := s.dsp.stations.modify n take }
            job := { s.job with overhead := min (s.job.overhead + (sum - 99999999)) 9999999999 } })) ∧
    exec (.slabScrap tag (.fields ⟨id⟩)) s =
      if ¬(1 ≤ id ∧ id ≤ 99999999) then .next (State.addReply 0x99#8 tag ⟨.badValue, []⟩ s)
      else match s.slab? id with
      | none => .next (State.addReply 0x99#8 tag ⟨.notFound, []⟩ s)
      | some sl =>
        if sl.state = .loaded ∨ sl.placements ≠ [] then .next (State.addReply 0x99#8 tag ⟨.wrongState, []⟩ s)
        else .next (State.addReply 0x99#8 tag ⟨.ok, []⟩ (State.report
          (.slabSettled { slabId := id, cost := sl.carried, gross := sl.xExt * sl.yExt, remnantArea := 0, remnantValue := 0, remnantId := 0,
                          excess := sl.carried, overCapped := decide (9999999999 < s.job.overhead + sl.carried), part := 1, parts := 1, entries := [] })
          { s with
            stk := { s.stk with slabs := s.stk.slabs.filter (fun e => e.1 != id) }
            job := { s.job with overhead := min (s.job.overhead + sl.carried) 9999999999 } }))

/-- R15, R38, R42, R57, R83, R95, R130, R161, R176, R180, R183, R185: the reading requests change nothing, and what each of them answers: its refusal where
what it names does not exist or a number is out of range (an id, a job, a piece or a slot first: log entry 21), and else OK with its results field by field, each
in the bytes of its type. The slab record is 30 + 8d bytes after the status, with each field at its offset in 10.3, and the placement record stands as there.
The widths that R183 does not list (flows, rates, litres, minutes, gauge counts, line address, match group, step numbers, tokens), the hold cause codes and
the mirrored set as a list are log entry 4, the estimate of JOB QUERY log entry 32, 0 seconds left where nothing runs log entry 35, the places of all three
kinds in a step of STATION QUERY log entry 44, and the points of BANK READ and the
values of FLAGS QUERY without a count byte log entry 53. -/
def Obligations.ReadsChangeNothing : Prop :=
  ∀ (tag : Byte) (s : State), s.takesAtOnce →
    let row := fun fields : List (Nat × Nat) => fields.flatMap (fun e => leBytes e.1 e.2)
    let placement := fun q : Placement =>
      [(2, q.job), (1, q.piece), (2, q.x), (2, q.y), (1, q.rotated.toNat), (2, q.w), (2, q.h), (1, q.state.code), (1, q.marked.toNat),
        (1, q.token.getD 0)]
    let piece := fun e : Nat × Piece =>
      [(1, e.1), (2, e.2.material), (2, e.2.xExt), (2, e.2.yExt), (1, e.2.grain.toNat), (1, e.2.group), (1, e.2.state.code), (1, e.2.settled.toNat),
        (1, e.2.notMade.toNat)]
    let step := fun h : Step => [(2, h.number), (1, h.kind.code), (1, h.state.code), (1, h.token.getD 0)] ++
      match h.kind with
      | .cut j p => [(2, j), (1, p), (2, 0), (2, 0), (2, 0)]
      | .trim len => [(2, 0), (1, 0), (2, len), (2, 0), (2, 0)]
      | .probe lo hi _ _ _ => [(2, 0), (1, 0), (2, 0), (2, lo), (2, hi)]
    let drives := fun i : Nat => match (s.point i).mode with
      | .input => DriveSource.none
      | .output => .latch
      | .function => if 12 ≤ i then .none
        else if s.wlc.state = LoopState.manual ∧ (i < 8 ∨ s.wlc.handover = some HandoverMode.full) then .latch else .function
    (∀ id, ∃ rep, exec (.slabQuery tag (.fields ⟨id⟩)) s = .next (State.addReply 0x94#8 tag rep s) ∧
      (¬(1 ≤ id ∧ id ≤ 99999999) → rep = ⟨.badValue, []⟩) ∧
      (1 ≤ id ∧ id ≤ 99999999 → s.slab? id = none → rep = ⟨.notFound, []⟩) ∧
      ∀ sl, 1 ≤ id ∧ id ≤ 99999999 → s.slab? id = some sl → rep.status = .ok ∧ rep.results.length = 30 + 8 * sl.defects.length ∧
        let field := fun offset width => leValue ((rep.results.drop (offset - 1)).take width)
        (field 1 4 = id ∧ field 5 1 = sl.kind.code ∧ field 6 4 = sl.parent.getD 0 % 4294967296 ∧ field 10 2 = sl.material % 65536 ∧
          field 12 2 = sl.thickness % 65536 ∧ field 14 2 = sl.xExt % 65536 ∧ field 16 2 = sl.yExt % 65536 ∧ field 18 1 = sl.trim % 256) ∧
        (field 19 2 = sl.location % 65536 ∧ field 21 1 = sl.state.code ∧ field 22 4 = sl.carried % 4294967296 ∧
          field 26 1 = sl.capped.toNat ∧ field 27 1 = sl.loadedOn.getD 0 % 256 ∧ field 28 1 = sl.placements.length % 256 ∧
          field 29 1 = (sl.placements.filter (fun q => q.marked)).length % 256 ∧ field 30 1 = sl.defects.length % 256) ∧
        ∀ k d, sl.defects[k]? = some d → field (31 + 8 * k) 2 = d.x0 % 65536 ∧ field (33 + 8 * k) 2 = d.y0 % 65536 ∧
          field (35 + 8 * k) 2 = d.x1 % 65536 ∧ field (37 + 8 * k) 2 = d.y1 % 65536) ∧
    (∀ filter start,
      let ids := (s.stk.slabs.filter (fun e => decide (start ≤ e.1) && (filter == 4 || e.2.state.code == filter))).map (·.1)
      exec (.slabList tag (.fields ⟨filter, start⟩)) s = .next (State.addReply 0x95#8 tag
        (if filter ≤ 4 ∧ start ≤ 99999999 then
          ⟨.ok, row ([(1, min 60 ids.length)] ++ (ids.take 60).map (fun id => (4, id)) ++ [(1, (decide (60 < ids.length)).toNat)])⟩
        else ⟨.badValue, []⟩) s)) ∧
    (∀ id start,
      let answers := fun rep : Reply => exec (.planQuery tag (.fields (.slabForm id start))) s = .next (State.addReply 0xA4#8 tag rep s)
      (¬(1 ≤ id ∧ id ≤ 99999999) → answers ⟨.badValue, []⟩) ∧
      (1 ≤ id ∧ id ≤ 99999999 → s.slab? id = none → answers ⟨.notFound, []⟩) ∧
      ∀ sl, 1 ≤ id ∧ id ≤ 99999999 → s.slab? id = some sl →
        (¬(1 ≤ start ∧ start ≤ 24) → answers ⟨.badValue, []⟩) ∧
        let page := ((sl.placements.drop (start - 1)).take 12).zipIdx start
        (1 ≤ start ∧ start ≤ 24 → answers ⟨.ok, row ([(4, id), (1, sl.placements.length), (1, (sl.placements.filter (fun q => q.marked)).length),
          (1, page.length)] ++ page.flatMap (fun e => (1, e.2) :: placement e.1))⟩)) ∧
    (∀ j p,
      let answers := fun rep : Reply => exec (.planQuery tag (.fields (.jobForm j p))) s = .next (State.addReply 0xA4#8 tag rep s)
      let named := (1 ≤ j ∧ j ≤ 65535) ∧ 1 ≤ p ∧ p ≤ 40
      (¬named → answers ⟨.badValue, []⟩) ∧ (named → s.piece? j p = none → answers ⟨.notFound, []⟩) ∧
      (named → s.piece? j p ≠ none → s.placement? j p = none → answers ⟨.wrongState, []⟩) ∧
      ∀ id q sl, named → s.piece? j p ≠ none → s.placement? j p = some (id, q) → s.slab? id = some sl →
        answers ⟨.ok, row ([(4, id), (1, sl.placements.findIdx (fun q => q.job == j && q.piece == p) + 1)] ++ placement q)⟩) ∧
    (∀ filter,
      let jobs := s.job.jobs.filter (fun e => filter == 4 || e.2.state.code == filter)
      exec (.jobList tag (.fields ⟨filter⟩)) s = .next (State.addReply 0xB2#8 tag
        (if filter ≤ 4 then ⟨.ok, row ((1, jobs.length) :: jobs.flatMap (fun e => [(2, e.1), (1, e.2.state.code)]))⟩ else ⟨.badValue, []⟩) s)) ∧
    (∀ j start,
      let answers := fun rep : Reply => exec (.jobQuery tag (.fields ⟨j, start⟩)) s = .next (State.addReply 0xB3#8 tag rep s)
      (¬(1 ≤ j ∧ j ≤ 65535) → answers ⟨.badValue, []⟩) ∧ (1 ≤ j ∧ j ≤ 65535 → s.job? j = none → answers ⟨.notFound, []⟩) ∧
      ∀ jb, 1 ≤ j ∧ j ≤ 65535 → s.job? j = some jb →
        (¬(1 ≤ start ∧ start ≤ 40) → answers ⟨.badValue, []⟩) ∧
        let pieces := jb.pieces.filter (fun e => decide (start ≤ e.1))
        let counts := fun e : Nat × Slab => e.2.placements.any (fun q => q.job == j && (q.state == .cut || q.state == .broken))
        (1 ≤ start ∧ start ≤ 40 → answers ⟨.ok, row (
          [(1, jb.state.code), (1, match jb.cause with | none => 0 | some .host => 1 | some .saturated => 2), (1, jb.rateSet),
            (1, jb.estimate.isSome.toNat), (4, jb.estimate.getD 0), (1, jb.overEstimate.toNat), (4, jb.material), (4, jb.machine), (4, jb.water),
            (4, jb.tool), (4, jb.material + jb.machine + jb.water + jb.tool), (1, (s.stk.slabs.filter counts).length), (1, jb.pieces.length),
            (1, min 12 pieces.length)] ++ (pieces.take 12).flatMap piece ++ [(1, (decide (12 < pieces.length)).toNat)])⟩)) ∧
    (∀ n,
      let answers := fun rep : Reply => exec (.stationQuery tag (.fields ⟨n⟩)) s = .next (State.addReply 0xC2#8 tag rep s)
      (¬(1 ≤ n ∧ n ≤ 8) → answers ⟨.badValue, []⟩) ∧ (1 ≤ n ∧ n ≤ 8 → s.station? n = none → answers ⟨.notFound, []⟩) ∧
      ∀ st, 1 ≤ n ∧ n ≤ 8 → s.station? n = some st → answers ⟨.ok, row (
        [(1, n), (1, st.address), (1, st.cls.code), (1, st.flow), (4, st.loadCharge), (1, st.condition.code), (1, st.hold.toNat), (4, st.toolLife),
          (1, st.toolLow.toNat), (4, st.loaded.getD 0), (2, st.nextStep), (1, st.nextToken), (1, st.failures), (1, st.reason.code),
          (1, st.queue.length)] ++ st.queue.flatMap step)⟩) ∧
    (let mirrored := (List.range 16).filter (fun k => decide (8 ≤ k) && (s.point (k + 8)).mode == .function)
     exec (.flagsQuery tag (.fields {})) s = .next (State.addReply 0xCD#8 tag ⟨.ok, row (
       (List.range 16).map (fun k => (1, (s.flag k).toNat)) ++ [(1, mirrored.length)] ++ mirrored.map (fun k => (1, k)))⟩ s)) ∧
    (let w := s.wlc
     let o := w.settings
     let left := match w.purgeEnd, w.priming with
       | some e, _ => e - s.clk.running
       | none, some p => p.start + (if p.on then 40 else 20) - s.clk.running
       | none, none => 0
     let pumping := w.grants ≠ [] ∨ (∃ p ∈ w.priming, p.on = true)
     exec (.loopQuery tag (.fields {})) s = .next (State.addReply 0xD1#8 tag ⟨.ok, row (
       [(1, w.state.code), (1, w.deferred.code), (1, HandoverMode.code w.handover)] ++
       [(2, o.pump), (2, o.capacity), (2, o.reserve), (2, o.low), (2, o.high), (2, o.margin), (1, o.purgeEnabled.toNat), (1, o.intervalIndex),
         (1, o.duration), (1, o.lateLimit), (1, o.supply.toNat), (1, o.prime.toNat), (1, o.pulse)] ++
       [(2, w.counts), (2, w.volume), (1, w.throttled.toNat), (1, w.sumpHigh.toNat), (1, w.due.toNat), (1, w.lateReported.toNat), (2, w.minutes),
         (4, left), (1, w.makeupOpen.toNat), (1, if pumping then 1 else 0), (1, w.grants.length)] ++
       w.grants.flatMap (fun e => [(1, e.1), (1, e.2.flow), (1, e.2.rate)]) ++ [(1, w.waitList.length)] ++
       w.waitList.flatMap (fun e => [(1, e.slot), (1, e.flow)]))⟩ s)) ∧
    (∀ bank, exec (.bankRead tag (.fields ⟨bank⟩)) s = .next (State.addReply 0xE2#8 tag
      (if bank ≤ 3 then ⟨.ok, row (((List.range 8).map (fun k => 8 * bank + k)).flatMap (fun i =>
          [(1, (s.point i).mode.code), (1, (s.point i).latch.toNat), (1, (s.point i).invert.toNat), (1, (s.point i).watch.code),
            (1, (s.point i).level.toNat), (1, (drives i).code)]) ++ [(2, s.wlc.counts)])⟩
      else ⟨.badValue, []⟩) s)) ∧
    exec (.shopStatus tag (.fields {})) s = .next (State.addReply 0xF0#8 tag
      ⟨.ok, u32 s.clk.shop ++ u32 s.clk.running ++ u8 s.wlc.state.code ++ u16 s.stk.slabs.length ++ u8 s.job.jobs.length ++
        u8 s.dsp.stations.length ++ u8 (s.lnk.out.filter OutFrame.isReport).length ++ u16 s.lnk.dropped⟩ s)

/-- R75: the cents of a settlement are divided exactly. Each job has the whole cents of its part of the area or one more, the shares sum to the whole, and
a job gets the cent before another by a larger remainder, or by the lower number at equal remainders. -/
def Obligations.SharesByLargestRemainder : Prop :=
  ∀ (d : Nat) (areas : Tbl Nat), areas.sorted → 0 < (areas.map (·.2)).sum →
    let whole := (areas.map (·.2)).sum
    let shares := finalShares d areas
    (shares.map (·.2)).sum = d ∧ shares.map (·.1) = areas.map (·.1) ∧
    (∀ e ∈ areas, shares.get? e.1 = some (d * e.2 / whole) ∨ shares.get? e.1 = some (d * e.2 / whole + 1)) ∧
    ∀ e ∈ areas, ∀ e' ∈ areas, shares.get? e.1 = some (d * e.2 / whole + 1) → shares.get? e'.1 = some (d * e'.2 / whole) →
      d * e'.2 % whole < d * e.2 % whole ∨ (d * e'.2 % whole = d * e.2 % whole ∧ e.1 < e'.1)

/-- R17, R18, R19, R53, R56, R60, R61, R73 to R78, R176, R186: SLAB CLOSE refuses at its first failing check with nothing changed, an id out of range first (log
entry 21), a remnant that fails its check with the detail of R18. An accepted one takes the slab out of the table, marks its pieces settled, creates the remnant
with its value, and posts the shares of the rest (SharesByLargestRemainder) to the jobs' MATERIAL accumulators. What exceeds a cap goes to overhead, sets SATURATED
and under hold-on-saturate holds an OPEN job; a CLOSING job with no other slab pending becomes CLOSED. The reports are, in order: each job's RATE FLAG and OVER
ESTIMATE, SLAB SETTLED in one part for at most 15 jobs and else in two (its overhead-capped mark: log entry 17), JOB SETTLED of each job closed, and then, where a
job became HELD, those of the examination of every head. What the accumulators and the overhead account gain, with the remnant's value, is the slab's carried cost
exactly, as long as the overhead account has room for it. A job names one of the four rate sets (R43). -/
def Obligations.CloseConservesCost : Prop :=
  ∀ (tag : Byte) (id : Nat) (m : Option RemnantReq) (s : State), s.takesAtOnce →
    let answers := fun a : Reply => exec (.slabClose tag (.fields ⟨id, m⟩)) s = .next (State.addReply 0x9A#8 tag a s)
    (¬(1 ≤ id ∧ id ≤ 99999999) → answers ⟨.badValue, []⟩) ∧
    (1 ≤ id ∧ id ≤ 99999999 → s.slab? id = none → answers ⟨.notFound, []⟩) ∧
    ∀ sl, 1 ≤ id ∧ id ≤ 99999999 → s.slab? id = some sl →
    let closes := sl.state ≠ .loaded ∧ sl.placements ≠ [] ∧ ∀ q ∈ sl.placements, q.state = .cut ∨ q.state = .broken
    let named := fun x : RemnantReq => 1 ≤ x.remnantId ∧ x.remnantId ≤ 99999999
    let large := fun x : RemnantReq => s.pln.minRemnant ≤ x.w ∧ s.pln.minRemnant ≤ x.h
    let inside := fun x : RemnantReq =>
      sl.trim ≤ x.x0 ∧ sl.trim ≤ x.y0 ∧ x.x0 + x.w + sl.trim ≤ sl.xExt ∧ x.y0 + x.h + sl.trim ≤ sl.yExt
    let clear := fun x : RemnantReq =>
      ∀ q ∈ sl.placements, x.x0 + x.w + s.pln.kerf ≤ q.x ∨ q.x + q.w + s.pln.kerf ≤ x.x0 ∨ x.y0 + x.h + s.pln.kerf ≤ q.y ∨
        q.y + q.h + s.pln.kerf ≤ x.y0
    (¬closes → answers ⟨.wrongState, []⟩) ∧
    (∀ x, closes → m = some x →
      (¬named x → answers ⟨.badValue, []⟩) ∧
      (named x → s.slab? x.remnantId ≠ none → answers ⟨.duplicate, []⟩) ∧
      (named x → s.slab? x.remnantId = none → ¬large x → answers ⟨.geometry, u8 7⟩) ∧
      (named x → s.slab? x.remnantId = none → large x → ¬inside x → answers ⟨.geometry, u8 1⟩) ∧
      (named x → s.slab? x.remnantId = none → large x → inside x → ¬clear x → answers ⟨.geometry, u8 3⟩)) ∧
    (s.stk.slabs.sorted → s.job.jobs.sorted → s.moneyCapped → closes →
    (∀ q ∈ sl.placements, s.job? q.job ≠ none) → (∀ e ∈ s.job.jobs, e.2.rateSet ≤ 3) →
    (∀ x, m = some x → named x ∧ s.slab? x.remnantId = none ∧ large x ∧ inside x ∧ clear x) →
    let value := match m with
      | none => 0
      | some x => sl.carried * (x.w * x.h) / (sl.xExt * sl.yExt)
    let here := fun e : Nat × Job => ∃ q ∈ sl.placements, q.job = e.1
    let jobs := s.job.jobs.filter (fun e => decide (here e))
    let area := fun j : Nat => ((sl.placements.filter (fun q => q.job == j)).map (fun q => q.w * q.h)).sum
    let areas : Tbl Nat := jobs.map (fun e => (e.1, area e.1))
    let whole := (areas.map (fun e => e.2)).sum
    let share := fun j : Nat => if whole = 0 then 0 else ((finalShares (sl.carried - value) areas).get? j).getD 0
    let material := fun e : Nat × Job => min (e.2.material + share e.1) 99999999
    let beyond := fun e : Nat × Job => e.2.material + share e.1 - 99999999
    let excess := if whole = 0 then sl.carried - value else (jobs.map beyond).sum
    let held := fun e : Nat × Job => 0 < beyond e ∧ (s.rateSet e.2.rateSet).holdOnSaturate = true ∧ e.2.state = .opened
    let passes := fun e : Nat × Job => here e ∧ whole ≠ 0 ∧ e.2.overEstimate = false ∧
      ∃ v ∈ e.2.estimate, v < material e + e.2.machine + e.2.water + e.2.tool
    let ends := fun e : Nat × Job => here e ∧ e.2.state = .closing ∧
      ∀ o ∈ s.stk.slabs, o.1 ≠ id → ∀ q ∈ o.2.placements, q.job = e.1 → q.state ≠ .cut ∧ q.state ≠ .broken
    let flags := fun e : Nat × Job => 0 < beyond e ∧ (s.rateSet e.2.rateSet).saturated = false ∧
      ∀ e' ∈ jobs, e'.1 < e.1 → e'.2.rateSet = e.2.rateSet → beyond e' = 0
    let postings : List Report := jobs.flatMap (fun e =>
      (if flags e then [Report.rateFlag e.2.rateSet (s.rateSet e.2.rateSet).inexact true (.job e.1 .material)] else []) ++
      (if passes e then [Report.overEstimate e.1 (e.2.estimate.getD 0) (material e) e.2.machine e.2.water e.2.tool] else []))
    let entries : List ShareEntry :=
      if whole = 0 then [] else jobs.map (fun e => { job := e.1, area := area e.1, share := share e.1, excess := beyond e })
    let part := fun (k n : Nat) (es : List ShareEntry) => Report.slabSettled
      { slabId := id, cost := sl.carried, gross := sl.xExt * sl.yExt, remnantArea := (m.map (fun x => x.w * x.h)).getD 0, remnantValue := value,
        remnantId := (m.map (fun x => x.remnantId)).getD 0, excess := excess, overCapped := decide (9999999999 < s.job.overhead + excess), part := k,
        parts := n, entries := es }
    let settled : List Report := if entries.length ≤ 15 then [part 1 1 entries] else [part 1 2 (entries.take 15), part 2 2 (entries.drop 15)]
    let closed : List Report := (jobs.filter (fun e => decide (ends e))).map (fun e => .jobSettled
      { job := e.1, rateSet := e.2.rateSet, material := material e, machine := e.2.machine, water := e.2.water, tool := e.2.tool,
        estimate := e.2.estimate, overEstimate := e.2.overEstimate || decide (passes e),
        cut := (e.2.pieces.filter (fun p => p.2.state == .cut)).length, broken := (e.2.pieces.filter (fun p => p.2.state == .broken)).length,
        notMade := (e.2.pieces.filter (fun p => p.2.notMade)).length })
    ∃ t, exec (.slabClose tag (.fields ⟨id, m⟩)) s =
        .next (State.addReply 0x9A#8 tag ⟨.ok, u32 value ++ u32 ((m.map (fun x => x.remnantId)).getD 0)⟩ t) ∧
      t.slab? id = none ∧
      (∀ x, m = some x → t.slab? x.remnantId = some
        { kind := .remnant, parent := some id, material := sl.material, thickness := sl.thickness, xExt := x.w, yExt := x.h, trim := 0,
          location := sl.location, state := .available, defects := sl.defects.filterMap (fun d => d.carry x), placements := [],
          carried := value, capped := false, loadedOn := none }) ∧
      (∀ k, k ≠ id → (∀ x, m = some x → k ≠ x.remnantId) → (t.slab? k).map (fun x => (x.carried, x.location, x.state)) =
        (s.slab? k).map (fun x => (x.carried, x.location, x.state))) ∧
      (∀ q ∈ sl.placements, ∀ pc, t.piece? q.job q.piece = some pc → pc.settled = true) ∧
      (∀ e ∈ s.job.jobs, ∃ jb, t.job? e.1 = some jb ∧ jb.material = material e ∧ jb.machine = e.2.machine ∧ jb.water = e.2.water ∧ jb.tool = e.2.tool ∧
        jb.overEstimate = (e.2.overEstimate || decide (passes e)) ∧
        jb.state = (if held e then .held else if ends e then .closed else e.2.state) ∧
        jb.cause = (if held e then some .saturated else e.2.cause)) ∧
      (∀ k < 4, t.rateSet k =
        { s.rateSet k with saturated := (s.rateSet k).saturated || decide (∃ e ∈ jobs, e.2.rateSet = k ∧ 0 < beyond e) }) ∧
      t.job.overhead = min (s.job.overhead + excess) 9999999999 ∧
      (∃ later : List Report, t.lnk = ((postings ++ settled ++ closed ++ later).foldl (fun (s : State) r => s.report r) s).lnk ∧
        ((∀ e ∈ jobs, ¬held e) → later = [] ∧ t.dsp = s.dsp ∧ t.slc = s.slc ∧ t.wlc = s.wlc ∧ t.cst = s.cst ∧ t.ppt = s.ppt)) ∧
      (s.job.overhead + sl.carried ≤ 9999999999 →
        (t.job.jobs.map (fun e => e.2.material)).sum + t.job.overhead + value =
          (s.job.jobs.map (fun e => e.2.material)).sum + s.job.overhead + sl.carried))

/-! ### Cut planning -/

/-- R21, R37, R39, R176: PLAN SET writes both settings, clamped, and refuses a new kerf while any placement exists; UNPLACE takes a PLANNED placement off its
slab; RESOLVE gives a marked placement that is not ISSUED its outcome. A job or a piece out of range is refused first (log entry 21). -/
def Obligations.PlanRequests : Prop :=
  ∀ (tag : Byte) (s : State), s.takesAtOnce →
    let named := fun j p : Nat => (1 ≤ j ∧ j ≤ 65535) ∧ (1 ≤ p ∧ p ≤ 40)
    (∀ kerf least : Option Nat,
      let k := match kerf with
        | none => s.pln.kerf
        | some v => if v < 1 then 1 else if 8 < v then 8 else v
      let m := match least with
        | none => s.pln.minRemnant
        | some v => if v < 100 then 100 else if 1000 < v then 1000 else v
      let clamped := kerf.getD k ≠ k ∨ least.getD m ≠ m
      let frozen := k ≠ s.pln.kerf ∧ ∃ e ∈ s.stk.slabs, e.2.placements ≠ []
      (frozen → exec (.planSet tag (.fields ⟨kerf, least⟩)) s = .next (State.addReply 0xA0#8 tag ⟨.wrongState, []⟩ s)) ∧
      (¬frozen → exec (.planSet tag (.fields ⟨kerf, least⟩)) s = .next (State.addReply 0xA0#8 tag
        ⟨if clamped then .adjusted else .ok, u16 k ++ u16 m⟩ { s with pln := { kerf := k, minRemnant := m } }))) ∧
    (∀ j p : Nat,
      (¬named j p → exec (.unplace tag (.fields ⟨j, p⟩)) s = .next (State.addReply 0xA3#8 tag ⟨.badValue, []⟩ s)) ∧
      (named j p → s.piece? j p = none → exec (.unplace tag (.fields ⟨j, p⟩)) s = .next (State.addReply 0xA3#8 tag ⟨.notFound, []⟩ s)) ∧
      (named j p → s.piece? j p ≠ none → (∀ x, s.placement? j p = some x → x.2.state ≠ .planned) →
        exec (.unplace tag (.fields ⟨j, p⟩)) s = .next (State.addReply 0xA3#8 tag ⟨.wrongState, []⟩ s)) ∧
      (∀ id q sl pc, named j p → s.piece? j p = some pc → s.placement? j p = some (id, q) → s.slab? id = some sl → q.state = .planned →
        ∃ t, exec (.unplace tag (.fields ⟨j, p⟩)) s = .next (State.addReply 0xA3#8 tag ⟨.ok, []⟩ t) ∧
          t.slab? id = some { sl with
            placements := sl.placements.filter (fun x => !(x.job == j && x.piece == p))
            state := if sl.state = .allocated ∧ sl.placements.filter (fun x => !(x.job == j && x.piece == p)) = [] then .available else sl.state } ∧
          t.piece? j p = some { pc with state := .unplaced } ∧
          (∀ k, k ≠ id → t.slab? k = s.slab? k) ∧ (∀ k, k ≠ j → t.job? k = s.job? k) ∧
          t.dsp = s.dsp ∧ t.slc = s.slc ∧ t.wlc = s.wlc ∧ t.lnk = s.lnk ∧ t.job.overhead = s.job.overhead)) ∧
    ∀ j p o : Nat,
      (¬named j p ∨ (o ≠ 2 ∧ o ≠ 3) → exec (.resolve tag (.fields ⟨j, p, o⟩)) s = .next (State.addReply 0xA5#8 tag ⟨.badValue, []⟩ s)) ∧
      (named j p → o = 2 ∨ o = 3 → s.piece? j p = none → exec (.resolve tag (.fields ⟨j, p, o⟩)) s = .next (State.addReply 0xA5#8 tag ⟨.notFound, []⟩ s)) ∧
      (named j p → o = 2 ∨ o = 3 → s.piece? j p ≠ none → (∀ x, s.placement? j p = some x → x.2.marked = false ∨ x.2.state = .issued) →
        exec (.resolve tag (.fields ⟨j, p, o⟩)) s = .next (State.addReply 0xA5#8 tag ⟨.wrongState, []⟩ s)) ∧
      (∀ id q pc, named j p → o = 2 ∨ o = 3 → s.piece? j p = some pc → s.placement? j p = some (id, q) → q.marked = true → q.state ≠ .issued →
        ∃ t, exec (.resolve tag (.fields ⟨j, p, o⟩)) s = .next (State.addReply 0xA5#8 tag ⟨.ok, []⟩ t) ∧
          t.placement? j p = some (id, { q with marked := false, state := if o = 2 then .cut else .broken }) ∧
          t.piece? j p = some { pc with state := if o = 2 then .cut else .broken } ∧
          (∀ k, k ≠ j → t.job? k = s.job? k) ∧ t.dsp = s.dsp ∧ t.slc = s.slc ∧ t.wlc = s.wlc ∧ t.lnk = s.lnk)

/-- R22, R27 to R32, R176: PLACE on a slab, a job and a piece that exist answers at its first failing check with nothing changed, the geometry details in their
order, and otherwise appends the placement. A field out of range is refused before all else (an id, a job and a piece: log entry 21). -/
def Obligations.PlaceMade : Prop :=
  ∀ (tag : Byte) (r : PlaceReq) (s : State) (sl : Slab) (jb : Job) (pc : Piece), s.takesAtOnce →
    let valid := (1 ≤ r.slabId ∧ r.slabId ≤ 99999999) ∧ (1 ≤ r.job ∧ r.job ≤ 65535) ∧ (1 ≤ r.piece ∧ r.piece ≤ 40) ∧ r.rotation ≤ 1 ∧
      r.x ≤ 65535 ∧ r.y ≤ 65535
    (¬valid → exec (.place tag (.fields r)) s = .next (State.addReply 0xA1#8 tag ⟨.badValue, []⟩ s)) ∧
    (valid → (s.slab? r.slabId = none ∨ s.job? r.job = none ∨ s.piece? r.job r.piece = none) →
      exec (.place tag (.fields r)) s = .next (State.addReply 0xA1#8 tag ⟨.notFound, []⟩ s)) ∧
    (valid → s.slab? r.slabId = some sl → s.job? r.job = some jb → s.piece? r.job r.piece = some pc →
      let w := if r.rotation = 1 then pc.yExt else pc.xExt
      let h := if r.rotation = 1 then pc.xExt else pc.yExt
      exec (.place tag (.fields r)) s = .next (
        if r.rotation = 1 ∧ pc.grain = true then State.addReply 0xA1#8 tag ⟨.badValue, []⟩ s
        else if pc.state ≠ .unplaced ∨ (jb.state ≠ .opened ∧ jb.state ≠ .held) ∨ sl.state = .received then
          State.addReply 0xA1#8 tag ⟨.wrongState, []⟩ s
        else if 24 ≤ sl.placements.length then State.addReply 0xA1#8 tag ⟨.full, []⟩ s
        else if s.inQuarantine sl = true then State.addReply 0xA1#8 tag ⟨.geometry, u8 6⟩ s
        else if pc.material ≠ sl.material then State.addReply 0xA1#8 tag ⟨.geometry, u8 4⟩ s
        else if ¬s.groupFree r.slabId r.job pc then State.addReply 0xA1#8 tag ⟨.geometry, u8 5⟩ s
        else if ¬(sl.trim ≤ r.x ∧ sl.trim ≤ r.y ∧ r.x + w + sl.trim ≤ sl.xExt ∧ r.y + h + sl.trim ≤ sl.yExt) then
          State.addReply 0xA1#8 tag ⟨.geometry, u8 1⟩ s
        else if ¬∀ d ∈ sl.defects, r.x + w ≤ d.x0 ∨ d.x1 ≤ r.x ∨ r.y + h ≤ d.y0 ∨ d.y1 ≤ r.y then
          State.addReply 0xA1#8 tag ⟨.geometry, u8 2⟩ s
        else if ¬sl.roomFor s.pln.kerf r.x r.y w h then State.addReply 0xA1#8 tag ⟨.geometry, u8 3⟩ s
        else State.addReply 0xA1#8 tag
          ⟨.ok, u32 r.slabId ++ u8 (sl.placements.length + 1) ++ u16 r.x ++ u16 r.y ++ u8 r.rotation ++ u16 w ++ u16 h⟩
          (s.placed r.slabId r.job r.piece
            { job := r.job, piece := r.piece, x := r.x, y := r.y, rotated := r.rotation == 1, w := w, h := h, state := .planned, marked := false,
              token := none })))

/-- R33 to R36: PLACE AUTO on a named slab places the piece at the lowest corner, then the leftmost, unrotated before rotated, where it has room, and
answers NO_FIT where it has room at none; naming no slab it does this on the first slab that has room, in the order of the search: remnants first,
then the smaller gross area, then the lower id. An id, a job or a piece out of range is refused first (R176, log entry 21). -/
def Obligations.PlaceAutoFindsFirst : Prop :=
  ∀ (tag : Byte) (j p : Nat) (s : State) (jb : Job) (pc : Piece), s.takesAtOnce →
    let named := (1 ≤ j ∧ j ≤ 65535) ∧ (1 ≤ p ∧ p ≤ 40)
    (¬named → exec (.placeAuto tag (.fields (.anySlab j p))) s = .next (State.addReply 0xA2#8 tag ⟨.badValue, []⟩ s)) ∧
    (∀ id, ¬(named ∧ 1 ≤ id ∧ id ≤ 99999999) →
      exec (.placeAuto tag (.fields (.onSlab id j p))) s = .next (State.addReply 0xA2#8 tag ⟨.badValue, []⟩ s)) ∧
    (named → s.stk.slabs.sorted → s.job? j = some jb →
    s.piece? j p = some pc → pc.state = .unplaced → (jb.state = .opened ∨ jb.state = .held) →
    let ready := fun (id : Nat) (sl : Slab) => sl.placements.length < 24 ∧ s.inQuarantine sl = false ∧ pc.material = sl.material ∧ s.groupFree id j pc
    let eligible := fun (id : Nat) (sl : Slab) =>
      (sl.state = .available ∨ sl.state = .allocated) ∧ (s.decode sl.location).searchable = true ∧ ready id sl
    (∀ id sl, 1 ≤ id → id ≤ 99999999 → s.slab? id = some sl → sl.state ≠ .received → ready id sl →
      ((∀ x y rot, ¬sl.fitsAt s.pln.kerf pc x y rot) →
        exec (.placeAuto tag (.fields (.onSlab id j p))) s = .next (State.addReply 0xA2#8 tag ⟨.geometry, u8 7⟩ s)) ∧
      ∀ x y rot, sl.fitsAt s.pln.kerf pc x y rot →
        (∀ x' y' rot', sl.fitsAt s.pln.kerf pc x' y' rot' → y < y' ∨ (y = y' ∧ (x < x' ∨ (x = x' ∧ (rot = true → rot' = true))))) →
        let w := if rot then pc.yExt else pc.xExt
        let h := if rot then pc.xExt else pc.yExt
        exec (.placeAuto tag (.fields (.onSlab id j p))) s = .next (State.addReply 0xA2#8 tag
          ⟨.ok, u32 id ++ u8 (sl.placements.length + 1) ++ u16 x ++ u16 y ++ u8 rot.toNat ++ u16 w ++ u16 h⟩
          (s.placed id j p
            { job := j, piece := p, x := x, y := y, rotated := rot, w := w, h := h, state := .planned, marked := false, token := none }))) ∧
    ((∀ id sl x y rot, s.slab? id = some sl → eligible id sl → ¬sl.fitsAt s.pln.kerf pc x y rot) →
      exec (.placeAuto tag (.fields (.anySlab j p))) s = .next (State.addReply 0xA2#8 tag ⟨.geometry, u8 7⟩ s)) ∧
    ∀ id sl, 1 ≤ id → id ≤ 99999999 → s.slab? id = some sl → eligible id sl → (∃ x y rot, sl.fitsAt s.pln.kerf pc x y rot) →
      (∀ id' sl', s.slab? id' = some sl' → eligible id' sl' → (∃ x y rot, sl'.fitsAt s.pln.kerf pc x y rot) → id' ≠ id →
        (sl.kind = .remnant ∧ sl'.kind = .slab) ∨ (sl.kind = sl'.kind ∧ (sl.xExt * sl.yExt < sl'.xExt * sl'.yExt ∨
          (sl.xExt * sl.yExt = sl'.xExt * sl'.yExt ∧ id < id')))) →
      exec (.placeAuto tag (.fields (.anySlab j p))) s = exec (.placeAuto tag (.fields (.onSlab id j p))) s)

/-! ### Jobs, pieces and rate sets -/

/-- R42, R43, R46, R47, R54, R56, R176: JOB OPEN, JOB SET and JOB DISCARD, each with its checks in their order, a job out of range first (log entry 21). A
JOB SET that changes the estimate makes the over-estimate test, whose mark stands once set; its reply's estimate is log entry 32. -/
def Obligations.JobRecords : Prop :=
  ∀ (tag : Byte) (s : State), s.takesAtOnce →
    (∀ r : JobOpenReq,
      let entered : Job :=
        { state := .opened, cause := none, rateSet := r.rateSet, estimate := r.estimate, overEstimate := false, pieces := [], material := 0,
          machine := 0, water := 0, tool := 0 }
      exec (.jobOpen tag (.fields r)) s = .next (
        if ¬(1 ≤ r.job ∧ r.job ≤ 65535 ∧ r.rateSet ≤ 3 ∧ ∀ v ∈ r.estimate, v ≤ 399999996) then State.addReply 0xB0#8 tag ⟨.badValue, []⟩ s
        else if s.job? r.job ≠ none then State.addReply 0xB0#8 tag ⟨.duplicate, []⟩ s
        else if 64 ≤ s.job.jobs.length then State.addReply 0xB0#8 tag ⟨.full, []⟩ s
        else State.addReply 0xB0#8 tag ⟨.ok, u16 r.job⟩ { s with job := { s.job with jobs := s.job.jobs.put r.job entered } })) ∧
    (∀ r : JobSetReq, ¬(1 ≤ r.job ∧ r.job ≤ 65535) →
      exec (.jobSet tag (.fields r)) s = .next (State.addReply 0xB1#8 tag ⟨.badValue, []⟩ s)) ∧
    (∀ r : JobSetReq, 1 ≤ r.job ∧ r.job ≤ 65535 → s.job? r.job = none →
      exec (.jobSet tag (.fields r)) s = .next (State.addReply 0xB1#8 tag ⟨.notFound, []⟩ s)) ∧
    (∀ (r : JobSetReq) (jb : Job), 1 ≤ r.job ∧ r.job ≤ 65535 → s.job? r.job = some jb →
      let k := r.rateSet.getD jb.rateSet
      let e := match r.estimate with
        | none => jb.estimate
        | some v => if v = 4294967295 then none else some v
      let passed := r.estimate.isSome && !jb.overEstimate && (match e with
        | none => false
        | some v => decide (v < jb.material + jb.machine + jb.water + jb.tool))
      let write := fun x : Job => { x with rateSet := k, estimate := e, overEstimate := x.overEstimate || passed }
      let t := { s with job := { s.job with jobs := s.job.jobs.modify r.job write } }
      exec (.jobSet tag (.fields r)) s = .next (
        if ¬((∀ v ∈ r.rateSet, v ≤ 3) ∧ ∀ v ∈ r.estimate, v ≤ 399999996 ∨ v = 4294967295) then State.addReply 0xB1#8 tag ⟨.badValue, []⟩ s
        else if jb.state ≠ .opened ∧ jb.state ≠ .held then State.addReply 0xB1#8 tag ⟨.wrongState, []⟩ s
        else State.addReply 0xB1#8 tag ⟨.ok, u8 k ++ mark e.isSome ++ u32 (e.getD 0)⟩
          (if passed then t.report (.overEstimate r.job (e.getD 0) jb.material jb.machine jb.water jb.tool) else t))) ∧
    ∀ j, exec (.jobDiscard tag (.fields ⟨j⟩)) s = .next (
      if ¬(1 ≤ j ∧ j ≤ 65535) then State.addReply 0xB9#8 tag ⟨.badValue, []⟩ s
      else match s.job? j with
      | none => State.addReply 0xB9#8 tag ⟨.notFound, []⟩ s
      | some jb =>
        if jb.state ≠ .closed then State.addReply 0xB9#8 tag ⟨.wrongState, []⟩ s
        else State.addReply 0xB9#8 tag ⟨.ok, []⟩ { s with job := { s.job with jobs := s.job.jobs.filter (fun e => e.1 != j) } })

/-- R44, R48, R49, R176: PIECE ADD and PIECE REMOVE, each with its checks in their order; a piece is added UNPLACED, and only an UNPLACED piece of an OPEN or
HELD job is removed. A job or a piece out of range is refused first (log entry 21). -/
def Obligations.PieceRecords : Prop :=
  ∀ (tag : Byte) (s : State), s.takesAtOnce →
    (∀ r : PieceAddReq,
      let valid := (1 ≤ r.job ∧ r.job ≤ 65535) ∧ (1 ≤ r.piece ∧ r.piece ≤ 40) ∧ (1 ≤ r.material ∧ r.material ≤ 65535) ∧ (50 ≤ r.xExt ∧ r.xExt ≤ 3600) ∧
        (50 ≤ r.yExt ∧ r.yExt ≤ 3600) ∧ r.grain ≤ 1 ∧ r.group ≤ 7
      let piece : Piece :=
        { material := r.material, xExt := r.xExt, yExt := r.yExt, grain := r.grain == 1, group := r.group, state := .unplaced, settled := false,
          notMade := false }
      let add := fun x : Job => { x with pieces := x.pieces.put r.piece piece }
      exec (.pieceAdd tag (.fields r)) s = .next (
        if ¬valid then State.addReply 0xB4#8 tag ⟨.badValue, []⟩ s
        else
          match s.job? r.job with
          | none => State.addReply 0xB4#8 tag ⟨.notFound, []⟩ s
          | some jb =>
            if jb.state ≠ .opened ∧ jb.state ≠ .held then State.addReply 0xB4#8 tag ⟨.wrongState, []⟩ s
            else if 40 ≤ jb.pieces.length then State.addReply 0xB4#8 tag ⟨.full, []⟩ s
            else if s.piece? r.job r.piece ≠ none then State.addReply 0xB4#8 tag ⟨.duplicate, []⟩ s
            else State.addReply 0xB4#8 tag ⟨.ok, []⟩ { s with job := { s.job with jobs := s.job.jobs.modify r.job add } })) ∧
    ∀ j p,
      let remove := fun x : Job => { x with pieces := x.pieces.filter (fun e => e.1 != p) }
      exec (.pieceRemove tag (.fields ⟨j, p⟩)) s = .next (
        if ¬((1 ≤ j ∧ j ≤ 65535) ∧ (1 ≤ p ∧ p ≤ 40)) then State.addReply 0xB5#8 tag ⟨.badValue, []⟩ s
        else match s.job? j, s.piece? j p with
        | some jb, some pc =>
          if (jb.state ≠ .opened ∧ jb.state ≠ .held) ∨ pc.state ≠ .unplaced then State.addReply 0xB5#8 tag ⟨.wrongState, []⟩ s
          else State.addReply 0xB5#8 tag ⟨.ok, []⟩ { s with job := { s.job with jobs := s.job.jobs.modify j remove } }
        | _, _ => State.addReply 0xB5#8 tag ⟨.notFound, []⟩ s)

/-- R45, R50 to R53, R176: JOB HOLD, JOB RESUME and JOB CLOSE. After a hold, a step that had passed its examination stands at its head as it stood, and, where
the steps behind every head are QUEUED (R89, kept by RecordsKept), no other CUT of the job has gone past QUEUED. A resumed job has none left for JOB_HELD where
its station can be examined. A closing one is CLOSED at once, with its JOB SETTLED report, where no slab holds its cut or broken pieces. A job out of range is
refused first (log entry 21). -/
def Obligations.JobStanding : Prop :=
  ∀ (tag : Byte) (j : Nat) (s : State) (jb : Job), s.takesAtOnce →
    (¬(1 ≤ j ∧ j ≤ 65535) → exec (.jobHold tag (.fields ⟨j⟩)) s = .next (State.addReply 0xB6#8 tag ⟨.badValue, []⟩ s) ∧
      exec (.jobResume tag (.fields ⟨j⟩)) s = .next (State.addReply 0xB7#8 tag ⟨.badValue, []⟩ s) ∧
      exec (.jobClose tag (.fields ⟨j⟩)) s = .next (State.addReply 0xB8#8 tag ⟨.badValue, []⟩ s)) ∧
    (1 ≤ j ∧ j ≤ 65535 → s.job? j = none → exec (.jobHold tag (.fields ⟨j⟩)) s = .next (State.addReply 0xB6#8 tag ⟨.notFound, []⟩ s) ∧
      exec (.jobResume tag (.fields ⟨j⟩)) s = .next (State.addReply 0xB7#8 tag ⟨.notFound, []⟩ s) ∧
      exec (.jobClose tag (.fields ⟨j⟩)) s = .next (State.addReply 0xB8#8 tag ⟨.notFound, []⟩ s)) ∧
    (1 ≤ j ∧ j ≤ 65535 → s.job? j = some jb →
      let sameAs := fun (x : Job) (st : JobState) (c : Option HoldCause) => x.state = st ∧ x.cause = c ∧ x.rateSet = jb.rateSet ∧
        x.estimate = jb.estimate ∧ x.overEstimate = jb.overEstimate ∧ x.material = jb.material ∧ x.machine = jb.machine ∧ x.water = jb.water ∧
        x.tool = jb.tool
      (jb.state ≠ .opened → exec (.jobHold tag (.fields ⟨j⟩)) s = .next (State.addReply 0xB6#8 tag ⟨.wrongState, []⟩ s)) ∧
      (jb.state = .opened → ∃ t x, exec (.jobHold tag (.fields ⟨j⟩)) s = .next (State.addReply 0xB6#8 tag ⟨.ok, []⟩ t) ∧
        t.job? j = some x ∧ sameAs x .held (some .host) ∧
        (∀ n h, s.head? n = some h → h.state ≠ .queued → t.head? n = some h) ∧
        (s.headLaw → ∀ n h p, t.head? n = some h → h.kind = .cut j p → h.state ≠ .queued → s.head? n = some h)) ∧
      (jb.state ≠ .held → exec (.jobResume tag (.fields ⟨j⟩)) s = .next (State.addReply 0xB7#8 tag ⟨.wrongState, []⟩ s)) ∧
      (jb.state = .held → ∃ t x, exec (.jobResume tag (.fields ⟨j⟩)) s = .next (State.addReply 0xB7#8 tag ⟨.ok, []⟩ t) ∧
        t.job? j = some x ∧ sameAs x .opened none ∧
        ∀ n st h p, t.station? n = some st → st.queue.head? = some h → h.kind = .cut j p → h.state = .queued → st.examinable = true →
          st.reason ≠ .jobHeld) ∧
      (let slabs := s.stk.slabs.filter (fun e => e.2.placements.any (fun q => q.job == j && (q.state == .cut || q.state == .broken)))
        let closable := (jb.state = .opened ∨ jb.state = .held) ∧ ∀ e ∈ jb.pieces, e.2.state ≠ .planned ∧ e.2.state ≠ .issued
        let close := fun (st : JobState) (x : Job) => { x with
          state := st
          cause := none
          pieces := x.pieces.map (fun e => (e.1, { e.2 with notMade := e.2.notMade || e.2.state == .unplaced })) }
        (¬closable → exec (.jobClose tag (.fields ⟨j⟩)) s = .next (State.addReply 0xB8#8 tag ⟨.wrongState, []⟩ s)) ∧
        (closable → slabs ≠ [] → exec (.jobClose tag (.fields ⟨j⟩)) s = .next (State.addReply 0xB8#8 tag ⟨.ok, u8 2 ++ u8 slabs.length⟩
          { s with job := { s.job with jobs := s.job.jobs.modify j (close .closing) } })) ∧
        (closable → slabs = [] → exec (.jobClose tag (.fields ⟨j⟩)) s = .next (State.addReply 0xB8#8 tag ⟨.ok, u8 3⟩
          (State.report (Job.settledReport j (close .closed jb))
            { s with job := { s.job with jobs := s.job.jobs.modify j (close .closed) } })))))

/-- R58 to R60, R62, R63: RATESET SET writes the rates, clamped to their tops, and leaves the flags; RATESET QUERY clears the flags, and SHOP ACCOUNT
both accounts, only where the host asks. The four bytes of a rate and of the makeup count are log entry 4, and what the reply of RATESET SET carries is log
entry 33. -/
def Obligations.RateSetsAndAccount : Prop :=
  ∀ (tag : Byte) (s : State), s.takesAtOnce →
    (∀ (r : RatesetSetReq) (mode : Rounding) (hold : Bool), r.number ≤ 3 → mode.code = r.rounding → hold.toNat = r.holdOnSaturate →
      let old := s.rateSet r.number
      let x : RateSet :=
        { machineSaw := min r.machineSaw 999999, machineJet := min r.machineJet 999999, machineWater := min r.machineWater 999999,
          toolSaw := min r.toolSaw 9999, toolJet := min r.toolJet 9999, toolWater := min r.toolWater 9999, water := min r.water 9999,
          rounding := mode, holdOnSaturate := hold, inexact := old.inexact, saturated := old.saturated }
      let inRange := r.machineSaw ≤ 999999 ∧ r.machineJet ≤ 999999 ∧ r.machineWater ≤ 999999 ∧ r.toolSaw ≤ 9999 ∧ r.toolJet ≤ 9999 ∧
        r.toolWater ≤ 9999 ∧ r.water ≤ 9999
      ∃ t, exec (.ratesetSet tag (.fields r)) s = .next (State.addReply 0xBA#8 tag ⟨if inRange then .ok else .adjusted,
          u8 r.number ++ u32 x.machineSaw ++ u32 x.machineJet ++ u32 x.machineWater ++ u32 x.toolSaw ++ u32 x.toolJet ++ u32 x.toolWater ++
            u32 x.water ++ u8 r.rounding ++ u8 r.holdOnSaturate⟩ t) ∧
        t.rateSet r.number = x ∧ (∀ k, k ≠ r.number → t.rateSet k = s.rateSet k) ∧ t.job.jobs = s.job.jobs ∧ t.job.overhead = s.job.overhead ∧
        t.job.makeup = s.job.makeup ∧ t.stk = s.stk ∧ t.dsp = s.dsp ∧ t.slc = s.slc ∧ t.wlc = s.wlc ∧ t.lnk = s.lnk) ∧
    (∀ r : RatesetSetReq, 3 < r.number ∨ 2 < r.rounding ∨ 1 < r.holdOnSaturate →
      exec (.ratesetSet tag (.fields r)) s = .next (State.addReply 0xBA#8 tag ⟨.badValue, []⟩ s)) ∧
    (∀ n c, n ≤ 3 → c ≤ 1 →
      let r := s.rateSet n
      let cleared := { r with inexact := false, saturated := false }
      exec (.ratesetQuery tag (.fields ⟨n, c⟩)) s = .next (State.addReply 0xBB#8 tag ⟨.ok, r.bytes⟩
        (if c = 1 then { s with job := { s.job with rateSets := s.job.rateSets.setIfInBounds n cleared } } else s))) ∧
    (∀ n c, 3 < n ∨ 1 < c → exec (.ratesetQuery tag (.fields ⟨n, c⟩)) s = .next (State.addReply 0xBB#8 tag ⟨.badValue, []⟩ s)) ∧
    ∀ c, exec (.shopAccount tag (.fields ⟨c⟩)) s = .next (
      if 1 < c then State.addReply 0xF3#8 tag ⟨.badValue, []⟩ s
      else State.addReply 0xF3#8 tag ⟨.ok, u64 s.job.overhead ++ u32 s.job.makeup⟩
        (if c = 1 then { s with job := { s.job with overhead := 0, makeup := 0 } } else s))

/-! ### Stations and their queues -/

/-- R80, R82, R83, R176: STATION DEFINE enters a station with no condition but OFFLINE, its flow and load charge clamped; STATION REMOVE takes out an idle one with
all that the line holds for it (log entry 15). Each has its checks in their order, a slot out of range first (log entry 21). That the reply of STATION DEFINE
carries its values under OK too is log entry 33, and the bytes of the line address and the flow in it are log entry 4. -/
def Obligations.StationRecords : Prop :=
  ∀ (tag : Byte) (s : State), s.takesAtOnce →
    (∀ r : StationDefineReq,
      let valid := (1 ≤ r.slot ∧ r.slot ≤ 8) ∧ (1 ≤ r.address ∧ r.address ≤ 119) ∧ r.toolLife ≤ 99999999 ∧ r.cls ≤ 2
      (¬valid → exec (.stationDefine tag (.fields r)) s = .next (State.addReply 0xC0#8 tag ⟨.badValue, []⟩ s)) ∧
      (valid → (s.station? r.slot ≠ none ∨ ∃ e ∈ s.dsp.stations, e.2.address = r.address) →
        exec (.stationDefine tag (.fields r)) s = .next (State.addReply 0xC0#8 tag ⟨.duplicate, []⟩ s)) ∧
      (∀ cls : StationClass, valid → cls.code = r.cls → s.station? r.slot = none → (∀ e ∈ s.dsp.stations, e.2.address ≠ r.address) →
        let flow := if r.flow < 5 then 5 else if 80 < r.flow then 80 else r.flow
        let charge := min r.loadCharge 99999
        let entered : Station :=
          { address := r.address, cls := cls, flow := flow, loadCharge := charge, condition := .offline, hold := false, toolLife := r.toolLife,
            toolLow := false, loaded := none, queue := [], nextStep := 1, nextToken := 1, failures := 0, reason := .none }
        exec (.stationDefine tag (.fields r)) s = .next (State.addReply 0xC0#8 tag
          ⟨if flow = r.flow ∧ charge = r.loadCharge then .ok else .adjusted,
            u8 r.slot ++ u8 r.address ++ u8 r.cls ++ u8 flow ++ u32 charge ++ u32 r.toolLife⟩
          { s with dsp := { s.dsp with stations := s.dsp.stations.put r.slot entered } }))) ∧
    ∀ n,
      (¬(1 ≤ n ∧ n ≤ 8) → exec (.stationRemove tag (.fields ⟨n⟩)) s = .next (State.addReply 0xC1#8 tag ⟨.badValue, []⟩ s)) ∧
      (1 ≤ n ∧ n ≤ 8 → s.station? n = none →
        exec (.stationRemove tag (.fields ⟨n⟩)) s = .next (State.addReply 0xC1#8 tag ⟨.notFound, []⟩ s)) ∧
      ∀ st, 1 ≤ n ∧ n ≤ 8 → s.station? n = some st →
        (st.loaded ≠ none ∨ st.queue ≠ [] → exec (.stationRemove tag (.fields ⟨n⟩)) s = .next (State.addReply 0xC1#8 tag ⟨.wrongState, []⟩ s)) ∧
        (st.loaded = none → st.queue = [] → ∃ t, exec (.stationRemove tag (.fields ⟨n⟩)) s = .next (State.addReply 0xC1#8 tag ⟨.ok, []⟩ t) ∧
          t.station? n = none ∧ (∀ m, m ≠ n → t.station? m = s.station? m) ∧
          t.slc.sendList = s.slc.sendList.filter (fun f => f.slot != n) ∧ t.slc.haltOwed.get? n = none ∧ n ∉ t.slc.flowOwed ∧
          t.slc.window ≠ some n ∧ (∀ o, t.slc.own = some o → o.frame.slot ≠ n) ∧
          t.stk = s.stk ∧ t.job = s.job ∧ t.cst = s.cst ∧ t.wlc = s.wlc ∧ t.ppt = s.ppt ∧ t.lnk = s.lnk ∧ t.dsp.flags = s.dsp.flags)

/-- R3, R87, R92, R108, R109, R176: UNLOAD, with its checks in their order, a slot out of range first (log entry 21), empties the station's queue and takes its
slab to the location, AVAILABLE or ALLOCATED by its placements. Where no step stood IN_DOUBT the slab pays the zone's charge alone, and the CUT steps cancelled
return their placements to PLANNED. An IN_DOUBT step, which holds no grant, ends BROKEN and is charged its water alone: a CUT to its job, another to the slab
before the zone's charge. The reply carries the whole decode (log entry 31). -/
def Obligations.UnloadTakesSlabOff : Prop :=
  ∀ (tag : Byte) (n location : Nat) (s : State), s.takesAtOnce →
    (¬(1 ≤ n ∧ n ≤ 8) ∨ 65535 < location → exec (.unload tag (.fields ⟨n, location⟩)) s = .next (State.addReply 0xC4#8 tag ⟨.badValue, []⟩ s)) ∧
    (1 ≤ n ∧ n ≤ 8 → location ≤ 65535 → s.station? n = none →
      exec (.unload tag (.fields ⟨n, location⟩)) s = .next (State.addReply 0xC4#8 tag ⟨.notFound, []⟩ s)) ∧
    ∀ st, 1 ≤ n ∧ n ≤ 8 → location ≤ 65535 → s.station? n = some st →
      let running := ∃ h ∈ st.queue.head?, h.state = .offered ∨ h.state = .inProgress ∨ h.state = .halting
      (st.loaded = none ∨ running →
        exec (.unload tag (.fields ⟨n, location⟩)) s = .next (State.addReply 0xC4#8 tag ⟨.wrongState, []⟩ s)) ∧
      (st.loaded ≠ none → ¬running → 65281 ≤ location → location ≤ 65288 →
        exec (.unload tag (.fields ⟨n, location⟩)) s = .next (State.addReply 0xC4#8 tag ⟨.zone, []⟩ s)) ∧
      ∀ id sl, st.loaded = some id → s.slab? id = some sl → ¬running → ¬(65281 ≤ location ∧ location ≤ 65288) →
        ∃ t sl' st', exec (.unload tag (.fields ⟨n, location⟩)) s = .next (State.addReply 0xC4#8 tag
            ⟨.ok, u32 id ++ u16 location ++ (s.decode location).bytes ++ u32 sl'.carried⟩ t) ∧
          t.slab? id = some sl' ∧ sl'.location = location ∧ sl'.loadedOn = none ∧
          sl'.state = (if sl.placements = [] then .available else .allocated) ∧
          t.station? n = some st' ∧ st'.loaded = none ∧ st'.queue = [] ∧ st'.condition = st.condition ∧
          ((∀ h ∈ st.queue.head?, h.state ≠ .inDoubt) → (∀ h ∈ st.queue.tail, h.state = .queued) →
            sl'.carried = min (sl.carried + (s.decode location).charge) 99999999 ∧
            ∀ h ∈ st.queue, ∀ j p, h.kind = .cut j p → ∀ x q, t.placement? j p = some (x, q) → q.state = .planned ∧ q.token = none) ∧
          ∀ h q, st.queue = h :: q → h.state = .inDoubt → h.grantHeld = false → (∀ x ∈ q, x.state = .queued ∧ x.number ≠ h.number) →
            let rs := s.rateSet 0
            ((∀ j p, h.kind ≠ .cut j p) →
              sl'.carried = min (min (sl.carried + (roundPart rs.rounding (h.water * rs.water) 10000).1) 99999999 +
                (s.decode location).charge) 99999999) ∧
            ∀ j p jb pc k pl, h.kind = .cut j p → s.job? j = some jb → s.piece? j p = some pc → s.placement? j p = some (k, pl) →
              (∀ e ∈ s.dsp.stations, ∀ h' ∈ e.2.queue, h'.kind = .cut j p → e.1 = n ∧ h'.number = h.number) →
              let rs := s.rateSet jb.rateSet
              sl'.carried = min (sl.carried + (s.decode location).charge) 99999999 ∧
              t.placement? j p = some (k, { pl with state := .broken, token := none }) ∧ t.piece? j p = some { pc with state := .broken } ∧
              ∃ jb', t.job? j = some jb' ∧ jb'.material = jb.material ∧ jb'.machine = min jb.machine 99999999 ∧ jb'.tool = min jb.tool 99999999 ∧
                jb'.water = min (jb.water + (roundPart rs.rounding (h.water * rs.water) 10000).1) 99999999

/-- R88, R90, R91, R176: STEP QUEUE, with its checks, puts a QUEUED step at the tail of the queue under the next step number, issues the placement of a CUT,
and the next step number advances by one, from 65,535 to 1, past every number in the queue. A step that joins others is not examined, and nothing else changes. That a CUT's
job or piece out of range is answered BAD_VALUE among the first checks is log entry 21. The two bytes of the step number in the reply are log entry 4. -/
def Obligations.StepJoinsQueue : Prop :=
  ∀ (tag : Byte) (r : StepQueueReq) (s : State), s.takesAtOnce →
    let valid := (1 ≤ r.slot ∧ r.slot ≤ 8) ∧ r.kind ≤ 2 ∧ (r.kind = 0 → (1 ≤ r.job ∧ r.job ≤ 65535) ∧ (1 ≤ r.piece ∧ r.piece ≤ 40)) ∧ (r.kind = 1 → 10 ≤ r.trim ∧ r.trim ≤ 10000) ∧
      (r.kind = 2 → 50 ≤ r.winMin ∧ r.winMin < r.winMax ∧ r.winMax ≤ 1000 ∧ (1 ≤ r.targetA ∧ r.targetA ≤ 15) ∧ (1 ≤ r.targetB ∧ r.targetB ≤ 15) ∧
        r.targetA ≠ r.targetB ∧ r.form ≤ 1) ∧
      ∀ g ∈ r.gate, g.flag ≤ 15 ∧ g.sense ≤ 1
    (¬valid → exec (.stepQueue tag (.fields r)) s = .next (State.addReply 0xC5#8 tag ⟨.badValue, []⟩ s)) ∧
    (valid → (s.station? r.slot = none ∨ (r.kind = 0 ∧ s.piece? r.job r.piece = none)) →
      exec (.stepQueue tag (.fields r)) s = .next (State.addReply 0xC5#8 tag ⟨.notFound, []⟩ s)) ∧
    ∀ st, valid → s.station? r.slot = some st → (r.kind = 0 → s.piece? r.job r.piece ≠ none) →
      let may := ∃ id ∈ st.loaded, r.kind = 0 → ∃ q, s.placement? r.job r.piece = some (id, q) ∧ q.state = .planned
      (¬may → exec (.stepQueue tag (.fields r)) s = .next (State.addReply 0xC5#8 tag ⟨.wrongState, []⟩ s)) ∧
      (may → 16 ≤ st.queue.length → exec (.stepQueue tag (.fields r)) s = .next (State.addReply 0xC5#8 tag ⟨.full, []⟩ s)) ∧
      (may → st.queue.length < 16 →
        let kind : StepKind := match r.kind with
          | 0 => .cut r.job r.piece
          | 1 => .trim r.trim
          | _ => .probe r.winMin r.winMax r.targetA r.targetB (if r.form = 1 then .strict else .plain)
        let advance := fun m : Nat => if m = 65535 then 1 else m + 1
        let held := fun m : Nat => m = st.nextStep ∨ ∃ h ∈ st.queue, h.number = m
        let entered : Step :=
          { number := st.nextStep, kind := kind, gate := r.gate.map (fun g => { flag := g.flag, sense := g.sense == 1 }), state := .queued,
            token := none, grantHeld := false, water := 0, lastToken := 0, stopPending := false }
        ∃ t, exec (.stepQueue tag (.fields r)) s =
            .next (State.addReply 0xC5#8 tag ⟨.ok, u16 st.nextStep ++ u8 (st.queue.length + 1)⟩ t) ∧
          (st.queue ≠ [] → ∃ i, t.station? r.slot = some { st with queue := st.queue ++ [entered], nextStep := Nat.repeat advance (i + 1) st.nextStep } ∧
            ¬held (Nat.repeat advance (i + 1) st.nextStep) ∧ (∀ k < i, held (Nat.repeat advance (k + 1) st.nextStep)) ∧
            (∀ m, m ≠ r.slot → t.station? m = s.station? m) ∧ t.slc = s.slc ∧ t.wlc = s.wlc ∧ t.lnk = s.lnk ∧ t.cst = s.cst ∧
            t.ppt = s.ppt ∧ t.pln = s.pln ∧ t.clk = s.clk ∧ t.dsp.flags = s.dsp.flags ∧
            t.stk.zones = s.stk.zones ∧ t.stk.defaultZone = s.stk.defaultZone ∧
            t.job.rateSets = s.job.rateSets ∧ t.job.overhead = s.job.overhead ∧ t.job.makeup = s.job.makeup ∧
            (∀ k, t.slab? k = (s.slab? k).map (fun sl => { sl with placements := sl.placements.map (fun q =>
              if r.kind = 0 ∧ q.job = r.job ∧ q.piece = r.piece then { q with state := .issued } else q) })) ∧
            ∀ j, t.job? j = (s.job? j).map (fun jb => { jb with pieces := jb.pieces.map (fun e =>
              if r.kind = 0 ∧ j = r.job ∧ e.1 = r.piece then (e.1, { e.2 with state := .issued }) else e) })) ∧
          (st.queue = [] → ∃ st', t.station? r.slot = some st' ∧ st'.nextStep = advance st.nextStep) ∧
          (st.queue = [] → (∀ g ∈ r.gate, s.flag g.flag = (g.sense == 1)) →
            ∃ h, t.head? r.slot = some h ∧ h.number = st.nextStep ∧ h.kind = kind) ∧
          (r.kind = 0 → st.queue ≠ [] →
            (∀ pc, s.piece? r.job r.piece = some pc → t.piece? r.job r.piece = some { pc with state := .issued }) ∧
            ∀ id q, s.placement? r.job r.piece = some (id, q) → t.placement? r.job r.piece = some (id, { q with state := .issued })))

/-- R66, R90, R96 to R101, R104, R116, R137, R138: the step that a STEP QUEUE brings to the head at an idle READY station. Where its gate fails it is
SKIPPED with no charge, a CUT's placement and piece are PLANNED, and a STRICT probe's targets are false but for a mirrored one. A CUT whose job is HELD stays
for JOB_HELD, and a CUT or TRIM that the tool life does not cover for TOOL_LOW. A PROBE is OFFERED without a grant. Any other asks for water, and by the
loop's answer it is OFFERED with a grant, an accrual and an open valve, waits at the tail of the wait list, or stays QUEUED with the reason. The two bytes of
the step number in the reply are log entry 4. -/
def Obligations.HeadAsksForWater : Prop :=
  ∀ (tag : Byte) (r : StepQueueReq) (s : State) (st : Station) (id len : Nat) (kind : StepKind) (offered : PartFrame), s.takesAtOnce →
    r.slot ≤ 8 → 1 ≤ r.slot → s.station? r.slot = some st → (∀ g ∈ r.gate, g.flag ≤ 15 ∧ g.sense ≤ 1) →
    st.queue = [] → st.loaded = some id → st.condition = .ready → st.hold = false →
    ((r.kind = 1 ∧ 10 ≤ r.trim ∧ r.trim ≤ 10000 ∧ len = r.trim ∧ kind = .trim r.trim ∧ offered = .offer r.slot st.nextToken 1 r.trim 0 0 0) ∨
      (∃ q, r.kind = 0 ∧ (1 ≤ r.job ∧ r.job ≤ 65535) ∧ (1 ≤ r.piece ∧ r.piece ≤ 40) ∧ s.piece? r.job r.piece ≠ none ∧
        s.placement? r.job r.piece = some (id, q) ∧ q.state = .planned ∧ len = 2 * (q.w + q.h) ∧ kind = .cut r.job r.piece ∧
        offered = .offer r.slot st.nextToken 0 q.x q.y q.w q.h) ∨
      (r.kind = 2 ∧ 50 ≤ r.winMin ∧ r.winMin < r.winMax ∧ r.winMax ≤ 1000 ∧ (1 ≤ r.targetA ∧ r.targetA ≤ 15) ∧ (1 ≤ r.targetB ∧ r.targetB ≤ 15) ∧
        r.targetA ≠ r.targetB ∧ r.form ≤ 1 ∧ len = 0 ∧
        kind = .probe r.winMin r.winMax r.targetA r.targetB (if r.form = 1 then .strict else .plain) ∧
        offered = .offer r.slot st.nextToken 2 r.winMin r.winMax 0 0)) →
    let n := r.slot
    let passes := ∀ g ∈ r.gate, s.flag g.flag = (g.sense == 1)
    let held := r.kind = 0 ∧ ∃ jb, s.job? r.job = some jb ∧ jb.state = .held
    let f := min st.flow s.wlc.settings.pump
    let room := s.wlc.settings.supply = true ∧ s.wlc.throttled = false ∧ s.wlc.sumpHigh = false ∧
      (s.wlc.grants.map (fun e => e.2.flow)).sum + f ≤ s.wlc.settings.pump
    let open_ := s.wlc.state = .running ∨ s.wlc.state = .purgeWait ∨ s.wlc.state = .purging
    ∃ t st', exec (.stepQueue tag (.fields r)) s = .next (State.addReply 0xC5#8 tag ⟨.ok, u16 st.nextStep ++ u8 1⟩ t) ∧ t.station? n = some st' ∧
      (¬passes → st'.queue = [] ∧ st'.reason = .none ∧ st'.condition = .ready ∧ st'.toolLife = st.toolLife ∧ st'.nextToken = st.nextToken ∧
        t.wlc = s.wlc ∧ t.slc = s.slc ∧ t.cst = s.cst ∧ t.ppt = s.ppt ∧ t.job.rateSets = s.job.rateSets ∧ t.job.overhead = s.job.overhead ∧
        (∃ o, t.lnk = (s.report (.stepOutcome o)).lnk ∧ o.slot = n ∧ o.number = st.nextStep ∧ o.outcome = .skipped ∧ o.rateSet = none ∧
          o.machinePart = 0 ∧ o.waterPart = 0 ∧ o.toolPart = 0) ∧
        (∀ k, (t.slab? k).map (fun sl => sl.carried) = (s.slab? k).map (fun sl => sl.carried)) ∧
        (∀ j, (t.job? j).map (fun jb => (jb.material, jb.machine, jb.water, jb.tool)) =
          (s.job? j).map (fun jb => (jb.material, jb.machine, jb.water, jb.tool))) ∧
        (∀ k < 16, t.flag k =
          if (r.kind = 2 ∧ r.form = 1 ∧ (k = r.targetA ∨ k = r.targetB)) ∧ s.mirrored k = false then false else s.flag k) ∧
        (r.kind = 0 → (∀ i q, s.placement? r.job r.piece = some (i, q) → t.placement? r.job r.piece = some (i, { q with token := none })) ∧
          ∀ pc, s.piece? r.job r.piece = some pc → t.piece? r.job r.piece = some { pc with state := .planned })) ∧
      (passes → ∃ h, st'.queue = [h] ∧ h.number = st.nextStep ∧ h.kind = kind ∧
        (∀ j p, kind = .cut j p → ∃ q, t.placement? j p = some (id, q) ∧ q.state = .issued ∧ (h.state = .offered → q.token = h.token)) ∧
        (held → h.state = .queued ∧ st'.reason = .jobHeld ∧ st'.toolLow = st.toolLow ∧ t.wlc = s.wlc ∧ t.slc = s.slc) ∧
        (¬held → st.toolLife < len → h.state = .queued ∧ st'.reason = .toolLow ∧ st'.toolLow = true ∧ t.wlc = s.wlc ∧ t.slc = s.slc) ∧
        ((h.state = .offered) → h.token = some st.nextToken ∧ st'.reason = .none ∧
          st'.nextToken = (if st.nextToken = 255 then 1 else st.nextToken + 1)) ∧
        (r.kind = 2 → h.state = .offered ∧ h.grantHeld = false ∧ t.wlc = s.wlc ∧ t.cst = s.cst ∧ t.ppt = s.ppt ∧
          t.slc = { s.slc with sendList := offered.joins s.slc.sendList }) ∧
        (r.kind ≠ 2 → ¬held → len ≤ st.toolLife →
          ((¬open_ ∨ s.wlc.deferred ≠ .none) → h.state = .queued ∧ st'.reason = .loopNotReady ∧ t.wlc = s.wlc ∧ t.slc = s.slc) ∧
          (open_ → s.wlc.deferred = .none → s.inFunction (n - 1) = false →
            h.state = .queued ∧ st'.reason = .noValve ∧ t.wlc = s.wlc ∧ t.slc = s.slc) ∧
          (open_ → s.wlc.deferred = .none → s.inFunction (n - 1) = true → (s.wlc.state ≠ .running ∨ s.wlc.waitList ≠ [] ∨ ¬room) →
            h.state = .waitingWater ∧ st'.reason = .waterWait ∧ t.slc = s.slc ∧
            t.wlc = { s.wlc with waitList := s.wlc.waitList ++ [{ slot := n, flow := f }] }) ∧
          (s.wlc.state = .running → s.wlc.deferred = .none → s.inFunction (n - 1) = true → s.wlc.waitList = [] → room →
            h.state = .offered ∧ h.grantHeld = true ∧
            t.wlc = { s.wlc with grants := s.wlc.grants.put n { flow := f, rate := f } } ∧
            t.cst = s.cst.put n { step := st.nextStep, rate := f, start := s.clk.running, total := 0 } ∧
            t.slc = { s.slc with sendList := offered.joins (PartFrame.joins (.flowSet n f) s.slc.sendList) } ∧
            (t.point (n - 1)).level = true ∧ ((s.point 8).mode = .function → (t.point 8).level = true))))

/-- R92, R93, R104, R175, R176: STEP CANCEL retires a step that has not gone out, and STEP ABORT the head as STEP CANCEL does while it has not; an IN_PROGRESS head is
put in HALTING and its HALT handed to the line, which its answer says (that the others carry no result is log entry 38). Any other state of the step refuses
both. A slot or a step number out of range is refused first (log entry 21). -/
def Obligations.StepCancelAndAbort : Prop :=
  ∀ (tag : Byte) (n k : Nat) (s : State), s.takesAtOnce →
    (¬((1 ≤ n ∧ n ≤ 8) ∧ (1 ≤ k ∧ k ≤ 65535)) →
      exec (.stepCancel tag (.fields ⟨n, k⟩)) s = .next (State.addReply 0xC6#8 tag ⟨.badValue, []⟩ s)) ∧
    ((1 ≤ n ∧ n ≤ 8) ∧ (1 ≤ k ∧ k ≤ 65535) → (∀ st, s.station? n = some st → ∀ h ∈ st.queue, h.number ≠ k) →
      exec (.stepCancel tag (.fields ⟨n, k⟩)) s = .next (State.addReply 0xC6#8 tag ⟨.notFound, []⟩ s)) ∧
    (∀ st a h b, (1 ≤ n ∧ n ≤ 8) ∧ (1 ≤ k ∧ k ≤ 65535) → s.station? n = some st → st.queue = a ++ h :: b → h.number = k → (∀ x ∈ a, x.number ≠ k) →
      (h.state ≠ .queued → h.state ≠ .waitingWater →
        exec (.stepCancel tag (.fields ⟨n, k⟩)) s = .next (State.addReply 0xC6#8 tag ⟨.wrongState, []⟩ s)) ∧
      (h.state = .queued ∨ h.state = .waitingWater →
        ∃ t st', exec (.stepCancel tag (.fields ⟨n, k⟩)) s = .next (State.addReply 0xC6#8 tag ⟨.ok, []⟩ t) ∧ t.station? n = some st' ∧
          (a ≠ [] → h.state = .queued → st' = { st with queue := a ++ b } ∧ t.wlc = s.wlc ∧ t.slc = s.slc ∧ t.cst = s.cst ∧
            (∀ m, m ≠ n → t.station? m = s.station? m) ∧
            ∀ j p, h.kind = .cut j p →
              (∀ pc, s.piece? j p = some pc → t.piece? j p = some { pc with state := .planned }) ∧
              ∀ id q, s.placement? j p = some (id, q) → t.placement? j p = some (id, { q with state := .planned, token := none })) ∧
          (a = [] → st'.queue.map (fun x => x.number) <:+ b.map (fun x => x.number)))) ∧
    (¬(1 ≤ n ∧ n ≤ 8) → exec (.stepAbort tag (.fields ⟨n⟩)) s = .next (State.addReply 0xC7#8 tag ⟨.badValue, []⟩ s)) ∧
    (1 ≤ n ∧ n ≤ 8 → s.head? n = none → exec (.stepAbort tag (.fields ⟨n⟩)) s = .next (State.addReply 0xC7#8 tag ⟨.notFound, []⟩ s)) ∧
    ∀ h, 1 ≤ n ∧ n ≤ 8 → s.head? n = some h →
      (h.state = .queued ∨ h.state = .waitingWater →
        ∃ t, exec (.stepAbort tag (.fields ⟨n⟩)) s = .next (State.addReply 0xC7#8 tag ⟨.ok, []⟩ t) ∧
          (1 ≤ h.number ∧ h.number ≤ 65535 →
            exec (.stepCancel tag (.fields ⟨n, h.number⟩)) s = .next (State.addReply 0xC6#8 tag ⟨.ok, []⟩ t))) ∧
      (h.state = .inProgress →
        let halting := fun x : Station => { x with queue := { h with state := .halting, stopPending := false } :: x.queue.drop 1 }
        ∃ t, exec (.stepAbort tag (.fields ⟨n⟩)) s = .next (State.addReply 0xC7#8 tag ⟨.ok, u8 4⟩ t) ∧
          t.station? n = (s.station? n).map halting ∧ (∀ m, m ≠ n → t.station? m = s.station? m) ∧
          t.slc = { s.slc with sendList := PartFrame.joins (.halt n (h.token.getD 0) false) s.slc.sendList } ∧
          t.stk = s.stk ∧ t.job = s.job ∧ t.cst = s.cst ∧ t.wlc = s.wlc ∧ t.ppt = s.ppt ∧ t.lnk = s.lnk) ∧
      (h.state = .offered ∨ h.state = .halting ∨ h.state = .inDoubt →
        exec (.stepAbort tag (.fields ⟨n⟩)) s = .next (State.addReply 0xC7#8 tag ⟨.wrongState, []⟩ s))

/-- R84, R85, R96, R97, R102, R176: STATION HOLD and STATION RELEASE set and clear the host hold, and a head that waits for water is withdrawn by the hold; FAULT
CLEAR makes a station in FAULT READY; TOOL CHANGE writes the tool life while no step is out. A slot out of range is
refused first (log entry 21). That the hold is the reason written whatever the station's condition is log entry 43. -/
def Obligations.StationStanding : Prop :=
  ∀ (tag : Byte) (n : Nat) (s : State), s.takesAtOnce →
    (¬(1 ≤ n ∧ n ≤ 8) →
      exec (.stationHold tag (.fields ⟨n⟩)) s = .next (State.addReply 0xC8#8 tag ⟨.badValue, []⟩ s) ∧
      exec (.stationRelease tag (.fields ⟨n⟩)) s = .next (State.addReply 0xC9#8 tag ⟨.badValue, []⟩ s) ∧
      exec (.faultClear tag (.fields ⟨n⟩)) s = .next (State.addReply 0xCA#8 tag ⟨.badValue, []⟩ s) ∧
      ∀ v, exec (.toolChange tag (.fields ⟨n, v⟩)) s = .next (State.addReply 0xCB#8 tag ⟨.badValue, []⟩ s)) ∧
    (1 ≤ n ∧ n ≤ 8 → s.station? n = none →
      exec (.stationHold tag (.fields ⟨n⟩)) s = .next (State.addReply 0xC8#8 tag ⟨.notFound, []⟩ s) ∧
      exec (.stationRelease tag (.fields ⟨n⟩)) s = .next (State.addReply 0xC9#8 tag ⟨.notFound, []⟩ s) ∧
      exec (.faultClear tag (.fields ⟨n⟩)) s = .next (State.addReply 0xCA#8 tag ⟨.notFound, []⟩ s) ∧
      ∀ v, exec (.toolChange tag (.fields ⟨n, v⟩)) s = .next (State.addReply 0xCB#8 tag ⟨.notFound, []⟩ s)) ∧
    ∀ st, 1 ≤ n ∧ n ≤ 8 → s.station? n = some st →
      (st.hold = true → exec (.stationHold tag (.fields ⟨n⟩)) s = .next (State.addReply 0xC8#8 tag ⟨.ok, []⟩ s)) ∧
      (st.hold = false → ∃ t st', exec (.stationHold tag (.fields ⟨n⟩)) s = .next (State.addReply 0xC8#8 tag ⟨.ok, []⟩ t) ∧
        t.station? n = some st' ∧ st'.hold = true ∧ st'.condition = st.condition ∧ st'.queue.map (fun x => x.number) = st.queue.map (fun x => x.number) ∧
        (∀ h ∈ st.queue.head?, (h.state = .queued ∨ h.state = .waitingWater → st'.reason = .stationHold ∧
            ∀ h' ∈ st'.queue.head?, h'.state = .queued) ∧
          (h.state ≠ .queued → h.state ≠ .waitingWater → st'.queue = st.queue) ∧
          (h.state = .waitingWater → ∀ e ∈ t.wlc.waitList, e.slot ≠ n))) ∧
      (st.hold = false → exec (.stationRelease tag (.fields ⟨n⟩)) s = .next (State.addReply 0xC9#8 tag ⟨.ok, []⟩ s)) ∧
      (st.hold = true → ∃ t st', exec (.stationRelease tag (.fields ⟨n⟩)) s = .next (State.addReply 0xC9#8 tag ⟨.ok, []⟩ t) ∧
        t.station? n = some st' ∧ st'.hold = false ∧ st'.condition = st.condition ∧ (st.queue = [] → st'.queue = [])) ∧
      (st.condition ≠ .fault → exec (.faultClear tag (.fields ⟨n⟩)) s = .next (State.addReply 0xCA#8 tag ⟨.wrongState, []⟩ s)) ∧
      (st.condition = .fault → ∃ t st', exec (.faultClear tag (.fields ⟨n⟩)) s = .next (State.addReply 0xCA#8 tag ⟨.ok, []⟩ t) ∧
        t.station? n = some st' ∧ st'.condition = .ready ∧ (st.queue = [] → st' = { st with condition := .ready, reason := .none })) ∧
      ∀ v,
        (99999999 < v → exec (.toolChange tag (.fields ⟨n, v⟩)) s = .next (State.addReply 0xCB#8 tag ⟨.badValue, []⟩ s)) ∧
        (v ≤ 99999999 → (∃ h ∈ st.queue.head?, h.state ≠ .queued ∧ h.state ≠ .waitingWater) →
          exec (.toolChange tag (.fields ⟨n, v⟩)) s = .next (State.addReply 0xCB#8 tag ⟨.wrongState, []⟩ s)) ∧
        (v ≤ 99999999 → (∀ h ∈ st.queue.head?, h.state = .queued ∨ h.state = .waitingWater) →
          ∃ t st', exec (.toolChange tag (.fields ⟨n, v⟩)) s = .next (State.addReply 0xCB#8 tag ⟨.ok, []⟩ t) ∧
            t.station? n = some st' ∧ st'.toolLife = v ∧ (st.queue = [] → st' = { st with toolLife := v, toolLow := false, reason := .none }))

/-- R94, R95, R126: FLAGS SET writes the flags it names, but for flag 0 and the mirrored ones, and LINE SETTINGS the poll interval, clamped; neither changes
anything else. The two bytes of the poll interval in the reply are log entry 4, and the sixteen values without a count byte log entry 53. -/
def Obligations.FlagsAndLineSettings : Prop :=
  ∀ (tag : Byte) (s : State), s.takesAtOnce →
    (∀ ws : List (Option Nat), ws.length = 16 → (∀ w ∈ ws, ∀ v ∈ w, v ≤ 1) →
      ∃ t results, exec (.flagsSet tag (.fields ⟨ws⟩)) s = .next (State.addReply 0xCC#8 tag ⟨.ok, results⟩ t) ∧
        (∀ k < 16, t.flag k = match ws[k]?.getD none with
          | none => s.flag k
          | some v => if k = 0 ∨ (8 ≤ k ∧ s.inFunction (k + 8) = true) then s.flag k else v == 1) ∧
        (∃ fl, t = { s with dsp := { s.dsp with flags := fl } }) ∧ results.take 16 = (List.range 16).flatMap (fun k => u8 (t.flag k).toNat)) ∧
    (∀ ws : List (Option Nat), (∃ w ∈ ws, ∃ v ∈ w, 1 < v) →
      exec (.flagsSet tag (.fields ⟨ws⟩)) s = .next (State.addReply 0xCC#8 tag ⟨.badValue, []⟩ s)) ∧
    ∀ interval : Option Nat,
      let v := match interval with
        | none => s.slc.pollInterval
        | some v => if v < 20 then 20 else if 500 < v then 500 else v
      exec (.lineSettings tag (.fields ⟨interval⟩)) s = .next (State.addReply 0xCE#8 tag
        ⟨if interval.getD v = v then .ok else .adjusted, u16 v ++ u8 s.slc.stuck.toNat⟩ { s with slc := { s.slc with pollInterval := v } })

/-! ### The water loop's requests -/

/-- R128, R129, R140, R176: LOOP SET tests the settings as they would stand and writes all of them or none, the clamped ones clamped. Where nothing of it moves the
loop on (it neither ends priming, nor raises Q or sets the supply to yes, nor changes the purge's enabling or interval), the wait list alone follows, its flows
cut to Q. The reply is ADJUSTED exactly where a value was clamped, a kept recovery margin that the capacity cuts among them (log entry 16); the bytes of litres,
flow and minutes in it are log entry 4. -/
def Obligations.LoopSettingsWritten : Prop :=
  ∀ (tag : Byte) (r : LoopSetReq) (s : State), s.takesAtOnce →
    let o := s.wlc.settings
    let clamp := fun (lo hi : Nat) (v : Option Nat) (old : Nat) => match v with
      | none => old
      | some v => if v < lo then lo else if hi < v then hi else v
    let yes := fun (v : Option Nat) (old : Bool) => match v with
      | none => old
      | some v => v == 1
    let capacity := clamp 500 20000 r.capacity o.capacity
    let n : LoopSettings :=
      { pump := clamp 40 400 r.pump o.pump, capacity := capacity, reserve := r.reserve.getD o.reserve, low := r.low.getD o.low,
        high := r.high.getD o.high, margin := min (r.margin.getD o.margin) capacity, purgeEnabled := yes r.purgeEnabled o.purgeEnabled,
        intervalIndex := r.intervalIndex.getD o.intervalIndex, duration := clamp 1 8 r.duration o.duration,
        lateLimit := clamp 5 60 r.lateLimit o.lateLimit, supply := yes r.supply o.supply, prime := yes r.prime o.prime,
        pulse := clamp 1 100 r.pulse o.pulse }
    let valid := (∀ v ∈ r.intervalIndex, v ≤ 7) ∧ (∀ v ∈ r.purgeEnabled, v ≤ 1) ∧ (∀ v ∈ r.supply, v ≤ 1) ∧ (∀ v ∈ r.prime, v ≤ 1) ∧
      (∀ v ∈ r.reserve, v ≤ 20000) ∧ (∀ v ∈ r.low, v ≤ 20000) ∧ (∀ v ∈ r.high, v ≤ 20000) ∧
      n.reserve < n.low ∧ n.low < n.high ∧ n.high ≤ n.capacity
    let asGiven := (∀ v ∈ r.pump, 40 ≤ v ∧ v ≤ 400) ∧ (∀ v ∈ r.capacity, 500 ≤ v ∧ v ≤ 20000) ∧ (∀ v ∈ r.duration, 1 ≤ v ∧ v ≤ 8) ∧
      (∀ v ∈ r.lateLimit, 5 ≤ v ∧ v ≤ 60) ∧ (∀ v ∈ r.pulse, 1 ≤ v ∧ v ≤ 100) ∧ r.margin.getD o.margin ≤ capacity
    let held := (s.wlc.grants.map (fun e => e.2.flow)).sum
    (¬valid → exec (.loopSet tag (.fields r)) s = .next (State.addReply 0xD0#8 tag ⟨.badValue, []⟩ s)) ∧
    (valid → n.pump < held → exec (.loopSet tag (.fields r)) s = .next (State.addReply 0xD0#8 tag ⟨.inUse, []⟩ s)) ∧
    (valid → held ≤ n.pump → ∃ t, exec (.loopSet tag (.fields r)) s =
        .next (State.addReply 0xD0#8 tag ⟨if asGiven then .ok else .adjusted, n.bytes⟩ t) ∧ t.wlc.settings = n ∧
      (s.wlc.state ≠ .priming → n.pump ≤ o.pump → r.supply ≠ some 1 → n.purgeEnabled = o.purgeEnabled → n.intervalIndex = o.intervalIndex →
        t = { s with wlc := { s.wlc with settings := n, waitList := s.wlc.waitList.map (fun e => { e with flow := min e.flow n.pump }) } }) ∧
      (s.wlc.state = .priming → r.purgeEnabled = some 1 ∨ r.supply = some 1 → t.wlc.priming = none ∧ t.wlc.state ≠ .priming))

/-- R135, R136, R144, R145: LOOP START goes to PRIMING, its pump ON, where the prime setting is yes and otherwise to RUNNING, PRIME END from PRIMING to RUNNING,
and PURGE NOW from RUNNING to a purge or the wait for one; on entering RUNNING the due test is made and a set due mark acts. Each refuses in every other state,
LOOP START also while B7 is active in FUNCTION mode, which it tests first (log entry 28). -/
def Obligations.LoopStartsAndPurges : Prop :=
  ∀ (tag : Byte) (s : State), s.takesAtOnce →
    let due := s.wlc.due = true ∨ (s.wlc.settings.purgeEnabled = true ∧ s.wlc.settings.interval ≤ s.wlc.minutes)
    let entered := fun t : State => t.wlc.priming = none ∧ t.wlc.due = decide due ∧
      t.wlc.state = (if due then (if s.wlc.grants = [] then .purging else .purgeWait) else .running) ∧
      (due → s.wlc.grants = [] → t.wlc.purgeEnd = some (s.clk.running + s.wlc.settings.duration * 60))
    let stopped := (s.point 15).mode = .function ∧ (s.point 15).level = true
    (stopped → exec (.loopStart tag (.fields {})) s = .next (State.addReply 0xD2#8 tag ⟨.plantStopped, []⟩ s)) ∧
    (¬stopped → s.wlc.state ≠ .off → s.wlc.state ≠ .stopped →
      exec (.loopStart tag (.fields {})) s = .next (State.addReply 0xD2#8 tag ⟨.wrongState, []⟩ s)) ∧
    (¬stopped → s.wlc.state = .off ∨ s.wlc.state = .stopped →
      ∃ t, exec (.loopStart tag (.fields {})) s = .next (State.addReply 0xD2#8 tag ⟨.ok, u8 t.wlc.state.code⟩ t) ∧
        (s.wlc.settings.prime = true → t.wlc = { s.wlc with state := .priming, priming := some { on := true, start := s.clk.running } } ∧
          ((s.point 8).mode = .function → (t.point 8).level = true)) ∧
        (s.wlc.settings.prime = false → s.wlc.priming = none → entered t)) ∧
    (s.wlc.state ≠ .priming → exec (.primeEnd tag (.fields {})) s = .next (State.addReply 0xD3#8 tag ⟨.wrongState, []⟩ s)) ∧
    (s.wlc.state = .priming →
      ∃ t, exec (.primeEnd tag (.fields {})) s = .next (State.addReply 0xD3#8 tag ⟨.ok, u8 t.wlc.state.code⟩ t) ∧ entered t ∧
        t.wlc.settings = { s.wlc.settings with prime := false }) ∧
    (s.wlc.state ≠ .running → exec (.purgeNow tag (.fields {})) s = .next (State.addReply 0xD4#8 tag ⟨.wrongState, []⟩ s)) ∧
    (s.wlc.state = .running →
      ∃ t, exec (.purgeNow tag (.fields {})) s = .next (State.addReply 0xD4#8 tag ⟨.ok, u8 t.wlc.state.code⟩ t) ∧ t.wlc.due = true ∧
        t.wlc.settings = s.wlc.settings ∧ t.wlc.minutes = s.wlc.minutes ∧
        (s.wlc.grants ≠ [] → t.wlc.state = .purgeWait ∧ t.wlc.grants = s.wlc.grants) ∧
        (s.wlc.grants = [] → t.wlc.state = .purging ∧ t.wlc.purgeEnd = some (s.clk.running + s.wlc.settings.duration * 60) ∧
          ((s.point 9).mode = .function → (t.point 9).level = true) ∧ ((s.point 11).mode = .function → (t.point 11).level = true)))

/-- R133, R135, R147 to R151: LOOP STANDBY, LOOP RESUME, LOOP HANDOVER and LOOP RECLAIM, by the loop state they find; in a state their rules do not name they
answer WRONG_STATE. The state reached takes in what follows at once: a purge where no grant is held, MANUAL where nothing is left to wait for.
That the wait list is refused in PURGING too is log entry 22. -/
def Obligations.LoopStandsBy : Prop :=
  ∀ (tag : Byte) (s : State), s.takesAtOnce →
    let w := s.wlc
    let due := w.due = true ∨ (w.settings.purgeEnabled = true ∧ w.settings.interval ≤ w.minutes)
    let onward := if due then (if w.grants = [] then LoopState.purging else .purgeWait) else .running
    let answers := fun (c : Instr) (kind : Byte) (p : State → Prop) =>
      ∃ t, exec c s = .next (State.addReply kind tag ⟨.ok, u8 t.wlc.state.code⟩ t) ∧ t.wlc.settings = w.settings ∧ p t
    let ends := s.clk.running + w.settings.duration * 60
    let standby := Instr.loopStandby tag (.fields {})
    let resume := Instr.loopResume tag (.fields {})
    let reclaim := Instr.loopReclaim tag (.fields {})
    (w.state = .running ∨ w.state = .purgeWait → answers standby 0xD5#8 (fun t => t.wlc.waitList = [] ∧
      (w.grants ≠ [] → t.wlc.state = .standbyWait) ∧ (w.grants = [] → t.wlc.state = .standbyPurge ∧ t.wlc.purgeEnd = some ends))) ∧
    (w.state = .purging → w.deferred = .none → answers standby 0xD5#8 (fun t => t.wlc.waitList = [] ∧ t.wlc.state = .purging ∧
      t.wlc.deferred = .standby)) ∧
    (w.state ≠ .running ∧ w.state ≠ .purgeWait ∧ ¬(w.state = .purging ∧ w.deferred = .none) →
      exec standby s = .next (State.addReply 0xD5#8 tag ⟨.wrongState, []⟩ s)) ∧
    (w.state = .standby → answers resume 0xD6#8 (fun t => t.wlc.state = .wakePurge ∧ t.wlc.purgeEnd = some ends)) ∧
    (w.state = .standbyWait → answers resume 0xD6#8 (fun t => t.wlc.state = onward)) ∧
    (w.state = .handoverWait → answers resume 0xD6#8 (fun t => t.wlc.state = onward ∧ t.wlc.handover = none)) ∧
    (w.state = .standbyPurge → w.deferred = .none → answers resume 0xD6#8 (fun t => t = { s with wlc := { w with deferred := .resume } })) ∧
    (w.state = .purging → w.deferred = .standby ∨ w.deferred = .handover →
      answers resume 0xD6#8 (fun t => t = { s with wlc := { w with deferred := .none, handover := none } })) ∧
    (w.state ≠ .standby ∧ w.state ≠ .standbyWait ∧ w.state ≠ .handoverWait ∧ ¬(w.state = .standbyPurge ∧ w.deferred = .none) ∧
        ¬(w.state = .purging ∧ (w.deferred = .standby ∨ w.deferred = .handover)) →
      exec resume s = .next (State.addReply 0xD6#8 tag ⟨.wrongState, []⟩ s)) ∧
    (∀ m : HandoverMode,
      let handover := Instr.loopHandover tag (.fields ⟨HandoverMode.code (some m)⟩)
      (w.state = .running ∨ w.state = .purgeWait → answers handover 0xD7#8 (fun t => t.wlc.waitList = [] ∧ t.wlc.handover = some m ∧
        (w.grants ≠ [] → t.wlc.state = .handoverWait) ∧
        (w.grants = [] → w.due = true → t.wlc.state = .purging ∧ t.wlc.deferred = .handover ∧ t.wlc.purgeEnd = some ends) ∧
        (w.grants = [] → w.due = false → t.wlc.state = .manual))) ∧
      (w.state = .standby → answers handover 0xD7#8 (fun t => t.wlc.state = .manual ∧ t.wlc.handover = some m)) ∧
      (w.state = .purging → w.deferred = .none → answers handover 0xD7#8 (fun t => t.wlc.waitList = [] ∧ t.wlc.state = .purging ∧
        t.wlc.deferred = .handover ∧ t.wlc.handover = some m)) ∧
      (w.state ≠ .running ∧ w.state ≠ .purgeWait ∧ w.state ≠ .standby ∧ ¬(w.state = .purging ∧ w.deferred = .none) →
        exec handover s = .next (State.addReply 0xD7#8 tag ⟨.wrongState, []⟩ s))) ∧
    (∀ c, c ≠ 1 → c ≠ 2 → exec (.loopHandover tag (.fields ⟨c⟩)) s = .next (State.addReply 0xD7#8 tag ⟨.badValue, []⟩ s)) ∧
    (w.state ≠ .manual → exec reclaim s = .next (State.addReply 0xD8#8 tag ⟨.wrongState, []⟩ s)) ∧
    (w.state = .manual → w.purgeEnd ≠ none → answers reclaim 0xD8#8 (fun t => t.wlc.state = .purging ∧ t.wlc.handover = none ∧
      t.wlc.purgeEnd = w.purgeEnd)) ∧
    (w.state = .manual → w.purgeEnd = none → answers reclaim 0xD8#8 (fun t => t.wlc.state = onward ∧ t.wlc.handover = none))

/-! ### What every step keeps -/

/-- R1, R23, R42, R43, R58, R80, R89, R94, R116, R128, R174, R178: the form of the records is kept by every step: the tables sorted and in their bounds, the
steps behind a head QUEUED, the link's lists in their bounds, the loop settings lawful, flag 0 true, the send list with one frame of a kind for a station, each
job under one of the four rate sets. Each is kept by itself. -/
def Obligations.RecordsKept : Prop :=
  ∀ s t : State, step s = .next t →
    (s.tablesSorted → t.tablesSorted) ∧ (s.tablesSorted → s.tablesBounded → t.tablesBounded) ∧ (s.headLaw → t.headLaw) ∧
    (s.linkBounded → t.linkBounded) ∧ (s.wlc.settings.lawful → t.wlc.settings.lawful) ∧ (s.flagZero → t.flagZero) ∧
    (s.sendLaw → t.sendLaw)

/-- R137, R139, R142: in every step the flows of the grants held stay within Q, and a grant is held in four loop states only. -/
def Obligations.WaterLawKept : Prop := ∀ s t : State, s.waterLaw → step s = .next t → t.waterLaw

/-- R4, R55, R63, R73: every account stays in its range, and no accumulator of a job falls in a step that keeps the job. -/
def Obligations.MoneyKept : Prop :=
  ∀ s t : State, s.moneyCapped → step s = .next t → t.moneyCapped ∧
    ∀ j jb jb', s.job? j = some jb → t.job? j = some jb' →
      jb.material ≤ jb'.material ∧ jb.machine ≤ jb'.machine ∧ jb.water ≤ jb'.water ∧ jb.tool ≤ jb'.tool

/-- R138, R141, R156 to R160: after every step each point has the level that it drives, by the loop's grants, pump, purge and makeup where its function drives
it, or that the plant gives it through invert: a point that stops driving has the plant's recorded value at once (log entry 9). -/
def Obligations.PointsSettledKept : Prop := ∀ s t : State, s.pointsSettled → step s = .next t → t.pointsSettled

/-- R3, R86, R87: a slab is LOADED exactly where one station records it as its own, and its location is that station's floor. Every step keeps this, while the
tables of slabs and stations are sorted. -/
def Obligations.LoadedLawKept : Prop :=
  ∀ s t : State, s.stk.slabs.sorted → s.dsp.stations.sorted → s.loadedLaw → step s = .next t → t.loadedLaw

/-- R21, R27, R40: every step keeps the law of the stone: each placement inside the usable region, clear of the defect windows, and a kerf clear of every
other placement. -/
def Obligations.StoneLawKept : Prop := ∀ s t : State, s.stk.slabs.sorted → s.geometryLaw → step s = .next t → t.geometryLaw

/-- The state right after power-on keeps every law of the part. The wires are first seen low there (log entry 1). -/
def Obligations.ResetIsSound : Prop :=
  State.reset.tablesSorted ∧ State.reset.tablesBounded ∧ State.reset.headLaw ∧ State.reset.linkBounded ∧ State.reset.wlc.settings.lawful ∧
    State.reset.flagZero ∧ State.reset.waterLaw ∧ State.reset.moneyCapped ∧ State.reset.pointsSettled ∧ State.reset.loadedLaw ∧
    State.reset.sendLaw ∧ State.reset.geometryLaw ∧ State.reset.pending = []
end

