-- ==== Sys2Proof/Laws/State.lean ====
section
/-!
SUPPORT. One lemma for each field of the state under each small update: what the update leaves, and what it writes. Each is true by unfolding once, so
that no later proof unfolds a record update.
-/
namespace Sys2Proof.Machine

variable (s : State)

/-! ### addReply -/

@[simp] theorem State.addReply_stk (kind tag : Byte) (r : Reply) : (s.addReply kind tag r).stk = s.stk := rfl
@[simp] theorem State.addReply_pln (kind tag : Byte) (r : Reply) : (s.addReply kind tag r).pln = s.pln := rfl
@[simp] theorem State.addReply_job (kind tag : Byte) (r : Reply) : (s.addReply kind tag r).job = s.job := rfl
@[simp] theorem State.addReply_cst (kind tag : Byte) (r : Reply) : (s.addReply kind tag r).cst = s.cst := rfl
@[simp] theorem State.addReply_dsp (kind tag : Byte) (r : Reply) : (s.addReply kind tag r).dsp = s.dsp := rfl
@[simp] theorem State.addReply_slc (kind tag : Byte) (r : Reply) : (s.addReply kind tag r).slc = s.slc := rfl
@[simp] theorem State.addReply_wlc (kind tag : Byte) (r : Reply) : (s.addReply kind tag r).wlc = s.wlc := rfl
@[simp] theorem State.addReply_ppt (kind tag : Byte) (r : Reply) : (s.addReply kind tag r).ppt = s.ppt := rfl
@[simp] theorem State.addReply_clk (kind tag : Byte) (r : Reply) : (s.addReply kind tag r).clk = s.clk := rfl
@[simp] theorem State.addReply_pending (kind tag : Byte) (r : Reply) : (s.addReply kind tag r).pending = s.pending := rfl
@[simp] theorem State.addReply_rx (kind tag : Byte) (r : Reply) : (s.addReply kind tag r).lnk.rx = s.lnk.rx := rfl
@[simp] theorem State.addReply_requests (kind tag : Byte) (r : Reply) : (s.addReply kind tag r).lnk.requests = s.lnk.requests := rfl
theorem State.addReply_out (kind tag : Byte) (r : Reply) : (s.addReply kind tag r).lnk.out = s.lnk.out ++ [.reply kind tag r] := rfl
@[simp] theorem State.addReply_dropped (kind tag : Byte) (r : Reply) : (s.addReply kind tag r).lnk.dropped = s.lnk.dropped := rfl
@[simp] theorem State.addReply_firstDrop (kind tag : Byte) (r : Reply) : (s.addReply kind tag r).lnk.firstDrop = s.lnk.firstDrop := rfl
@[simp] theorem State.addReply_restartPending (kind tag : Byte) (r : Reply) : (s.addReply kind tag r).lnk.restartPending = s.lnk.restartPending := rfl

/-! ### modSlab -/

@[simp] theorem State.modSlab_pln (id : Nat) (f : Slab → Slab) : (s.modSlab id f).pln = s.pln := rfl
@[simp] theorem State.modSlab_job (id : Nat) (f : Slab → Slab) : (s.modSlab id f).job = s.job := rfl
@[simp] theorem State.modSlab_cst (id : Nat) (f : Slab → Slab) : (s.modSlab id f).cst = s.cst := rfl
@[simp] theorem State.modSlab_dsp (id : Nat) (f : Slab → Slab) : (s.modSlab id f).dsp = s.dsp := rfl
@[simp] theorem State.modSlab_slc (id : Nat) (f : Slab → Slab) : (s.modSlab id f).slc = s.slc := rfl
@[simp] theorem State.modSlab_wlc (id : Nat) (f : Slab → Slab) : (s.modSlab id f).wlc = s.wlc := rfl
@[simp] theorem State.modSlab_ppt (id : Nat) (f : Slab → Slab) : (s.modSlab id f).ppt = s.ppt := rfl
@[simp] theorem State.modSlab_lnk (id : Nat) (f : Slab → Slab) : (s.modSlab id f).lnk = s.lnk := rfl
@[simp] theorem State.modSlab_clk (id : Nat) (f : Slab → Slab) : (s.modSlab id f).clk = s.clk := rfl
@[simp] theorem State.modSlab_pending (id : Nat) (f : Slab → Slab) : (s.modSlab id f).pending = s.pending := rfl
theorem State.modSlab_slabs (id : Nat) (f : Slab → Slab) : (s.modSlab id f).stk.slabs = s.stk.slabs.modify id f := rfl
@[simp] theorem State.modSlab_zones (id : Nat) (f : Slab → Slab) : (s.modSlab id f).stk.zones = s.stk.zones := rfl
@[simp] theorem State.modSlab_defaultZone (id : Nat) (f : Slab → Slab) : (s.modSlab id f).stk.defaultZone = s.stk.defaultZone := rfl

/-! ### putSlab -/

@[simp] theorem State.putSlab_pln (id : Nat) (sl : Slab) : (s.putSlab id sl).pln = s.pln := rfl
@[simp] theorem State.putSlab_job (id : Nat) (sl : Slab) : (s.putSlab id sl).job = s.job := rfl
@[simp] theorem State.putSlab_cst (id : Nat) (sl : Slab) : (s.putSlab id sl).cst = s.cst := rfl
@[simp] theorem State.putSlab_dsp (id : Nat) (sl : Slab) : (s.putSlab id sl).dsp = s.dsp := rfl
@[simp] theorem State.putSlab_slc (id : Nat) (sl : Slab) : (s.putSlab id sl).slc = s.slc := rfl
@[simp] theorem State.putSlab_wlc (id : Nat) (sl : Slab) : (s.putSlab id sl).wlc = s.wlc := rfl
@[simp] theorem State.putSlab_ppt (id : Nat) (sl : Slab) : (s.putSlab id sl).ppt = s.ppt := rfl
@[simp] theorem State.putSlab_lnk (id : Nat) (sl : Slab) : (s.putSlab id sl).lnk = s.lnk := rfl
@[simp] theorem State.putSlab_clk (id : Nat) (sl : Slab) : (s.putSlab id sl).clk = s.clk := rfl
@[simp] theorem State.putSlab_pending (id : Nat) (sl : Slab) : (s.putSlab id sl).pending = s.pending := rfl
theorem State.putSlab_slabs (id : Nat) (sl : Slab) : (s.putSlab id sl).stk.slabs = s.stk.slabs.put id sl := rfl
@[simp] theorem State.putSlab_zones (id : Nat) (sl : Slab) : (s.putSlab id sl).stk.zones = s.stk.zones := rfl
@[simp] theorem State.putSlab_defaultZone (id : Nat) (sl : Slab) : (s.putSlab id sl).stk.defaultZone = s.stk.defaultZone := rfl

/-! ### delSlab -/

@[simp] theorem State.delSlab_pln (id : Nat) : (s.delSlab id).pln = s.pln := rfl
@[simp] theorem State.delSlab_job (id : Nat) : (s.delSlab id).job = s.job := rfl
@[simp] theorem State.delSlab_cst (id : Nat) : (s.delSlab id).cst = s.cst := rfl
@[simp] theorem State.delSlab_dsp (id : Nat) : (s.delSlab id).dsp = s.dsp := rfl
@[simp] theorem State.delSlab_slc (id : Nat) : (s.delSlab id).slc = s.slc := rfl
@[simp] theorem State.delSlab_wlc (id : Nat) : (s.delSlab id).wlc = s.wlc := rfl
@[simp] theorem State.delSlab_ppt (id : Nat) : (s.delSlab id).ppt = s.ppt := rfl
@[simp] theorem State.delSlab_lnk (id : Nat) : (s.delSlab id).lnk = s.lnk := rfl
@[simp] theorem State.delSlab_clk (id : Nat) : (s.delSlab id).clk = s.clk := rfl
@[simp] theorem State.delSlab_pending (id : Nat) : (s.delSlab id).pending = s.pending := rfl
theorem State.delSlab_slabs (id : Nat) : (s.delSlab id).stk.slabs = s.stk.slabs.del id := rfl
@[simp] theorem State.delSlab_zones (id : Nat) : (s.delSlab id).stk.zones = s.stk.zones := rfl
@[simp] theorem State.delSlab_defaultZone (id : Nat) : (s.delSlab id).stk.defaultZone = s.stk.defaultZone := rfl

/-! ### modJob -/

@[simp] theorem State.modJob_stk (j : Nat) (f : Job → Job) : (s.modJob j f).stk = s.stk := rfl
@[simp] theorem State.modJob_pln (j : Nat) (f : Job → Job) : (s.modJob j f).pln = s.pln := rfl
@[simp] theorem State.modJob_cst (j : Nat) (f : Job → Job) : (s.modJob j f).cst = s.cst := rfl
@[simp] theorem State.modJob_dsp (j : Nat) (f : Job → Job) : (s.modJob j f).dsp = s.dsp := rfl
@[simp] theorem State.modJob_slc (j : Nat) (f : Job → Job) : (s.modJob j f).slc = s.slc := rfl
@[simp] theorem State.modJob_wlc (j : Nat) (f : Job → Job) : (s.modJob j f).wlc = s.wlc := rfl
@[simp] theorem State.modJob_ppt (j : Nat) (f : Job → Job) : (s.modJob j f).ppt = s.ppt := rfl
@[simp] theorem State.modJob_lnk (j : Nat) (f : Job → Job) : (s.modJob j f).lnk = s.lnk := rfl
@[simp] theorem State.modJob_clk (j : Nat) (f : Job → Job) : (s.modJob j f).clk = s.clk := rfl
@[simp] theorem State.modJob_pending (j : Nat) (f : Job → Job) : (s.modJob j f).pending = s.pending := rfl
theorem State.modJob_jobs (j : Nat) (f : Job → Job) : (s.modJob j f).job.jobs = s.job.jobs.modify j f := rfl
@[simp] theorem State.modJob_rateSets (j : Nat) (f : Job → Job) : (s.modJob j f).job.rateSets = s.job.rateSets := rfl
@[simp] theorem State.modJob_overhead (j : Nat) (f : Job → Job) : (s.modJob j f).job.overhead = s.job.overhead := rfl
@[simp] theorem State.modJob_makeup (j : Nat) (f : Job → Job) : (s.modJob j f).job.makeup = s.job.makeup := rfl

/-! ### putJob -/

@[simp] theorem State.putJob_stk (j : Nat) (jb : Job) : (s.putJob j jb).stk = s.stk := rfl
@[simp] theorem State.putJob_pln (j : Nat) (jb : Job) : (s.putJob j jb).pln = s.pln := rfl
@[simp] theorem State.putJob_cst (j : Nat) (jb : Job) : (s.putJob j jb).cst = s.cst := rfl
@[simp] theorem State.putJob_dsp (j : Nat) (jb : Job) : (s.putJob j jb).dsp = s.dsp := rfl
@[simp] theorem State.putJob_slc (j : Nat) (jb : Job) : (s.putJob j jb).slc = s.slc := rfl
@[simp] theorem State.putJob_wlc (j : Nat) (jb : Job) : (s.putJob j jb).wlc = s.wlc := rfl
@[simp] theorem State.putJob_ppt (j : Nat) (jb : Job) : (s.putJob j jb).ppt = s.ppt := rfl
@[simp] theorem State.putJob_lnk (j : Nat) (jb : Job) : (s.putJob j jb).lnk = s.lnk := rfl
@[simp] theorem State.putJob_clk (j : Nat) (jb : Job) : (s.putJob j jb).clk = s.clk := rfl
@[simp] theorem State.putJob_pending (j : Nat) (jb : Job) : (s.putJob j jb).pending = s.pending := rfl
theorem State.putJob_jobs (j : Nat) (jb : Job) : (s.putJob j jb).job.jobs = s.job.jobs.put j jb := rfl
@[simp] theorem State.putJob_rateSets (j : Nat) (jb : Job) : (s.putJob j jb).job.rateSets = s.job.rateSets := rfl
@[simp] theorem State.putJob_overhead (j : Nat) (jb : Job) : (s.putJob j jb).job.overhead = s.job.overhead := rfl
@[simp] theorem State.putJob_makeup (j : Nat) (jb : Job) : (s.putJob j jb).job.makeup = s.job.makeup := rfl

/-! ### modPiece -/

@[simp] theorem State.modPiece_stk (j p : Nat) (f : Piece → Piece) : (s.modPiece j p f).stk = s.stk := rfl
@[simp] theorem State.modPiece_pln (j p : Nat) (f : Piece → Piece) : (s.modPiece j p f).pln = s.pln := rfl
@[simp] theorem State.modPiece_cst (j p : Nat) (f : Piece → Piece) : (s.modPiece j p f).cst = s.cst := rfl
@[simp] theorem State.modPiece_dsp (j p : Nat) (f : Piece → Piece) : (s.modPiece j p f).dsp = s.dsp := rfl
@[simp] theorem State.modPiece_slc (j p : Nat) (f : Piece → Piece) : (s.modPiece j p f).slc = s.slc := rfl
@[simp] theorem State.modPiece_wlc (j p : Nat) (f : Piece → Piece) : (s.modPiece j p f).wlc = s.wlc := rfl
@[simp] theorem State.modPiece_ppt (j p : Nat) (f : Piece → Piece) : (s.modPiece j p f).ppt = s.ppt := rfl
@[simp] theorem State.modPiece_lnk (j p : Nat) (f : Piece → Piece) : (s.modPiece j p f).lnk = s.lnk := rfl
@[simp] theorem State.modPiece_clk (j p : Nat) (f : Piece → Piece) : (s.modPiece j p f).clk = s.clk := rfl
@[simp] theorem State.modPiece_pending (j p : Nat) (f : Piece → Piece) : (s.modPiece j p f).pending = s.pending := rfl
@[simp] theorem State.modPiece_rateSets (j p : Nat) (f : Piece → Piece) : (s.modPiece j p f).job.rateSets = s.job.rateSets := rfl
@[simp] theorem State.modPiece_overhead (j p : Nat) (f : Piece → Piece) : (s.modPiece j p f).job.overhead = s.job.overhead := rfl
@[simp] theorem State.modPiece_makeup (j p : Nat) (f : Piece → Piece) : (s.modPiece j p f).job.makeup = s.job.makeup := rfl

/-! ### modStation -/

@[simp] theorem State.modStation_stk (n : Nat) (f : Station → Station) : (s.modStation n f).stk = s.stk := rfl
@[simp] theorem State.modStation_pln (n : Nat) (f : Station → Station) : (s.modStation n f).pln = s.pln := rfl
@[simp] theorem State.modStation_job (n : Nat) (f : Station → Station) : (s.modStation n f).job = s.job := rfl
@[simp] theorem State.modStation_cst (n : Nat) (f : Station → Station) : (s.modStation n f).cst = s.cst := rfl
@[simp] theorem State.modStation_slc (n : Nat) (f : Station → Station) : (s.modStation n f).slc = s.slc := rfl
@[simp] theorem State.modStation_wlc (n : Nat) (f : Station → Station) : (s.modStation n f).wlc = s.wlc := rfl
@[simp] theorem State.modStation_ppt (n : Nat) (f : Station → Station) : (s.modStation n f).ppt = s.ppt := rfl
@[simp] theorem State.modStation_lnk (n : Nat) (f : Station → Station) : (s.modStation n f).lnk = s.lnk := rfl
@[simp] theorem State.modStation_clk (n : Nat) (f : Station → Station) : (s.modStation n f).clk = s.clk := rfl
@[simp] theorem State.modStation_pending (n : Nat) (f : Station → Station) : (s.modStation n f).pending = s.pending := rfl
theorem State.modStation_stations (n : Nat) (f : Station → Station) : (s.modStation n f).dsp.stations = s.dsp.stations.modify n f := rfl
@[simp] theorem State.modStation_flags (n : Nat) (f : Station → Station) : (s.modStation n f).dsp.flags = s.dsp.flags := rfl

/-! ### modHead -/

@[simp] theorem State.modHead_stk (n : Nat) (f : Step → Step) : (s.modHead n f).stk = s.stk := rfl
@[simp] theorem State.modHead_pln (n : Nat) (f : Step → Step) : (s.modHead n f).pln = s.pln := rfl
@[simp] theorem State.modHead_job (n : Nat) (f : Step → Step) : (s.modHead n f).job = s.job := rfl
@[simp] theorem State.modHead_cst (n : Nat) (f : Step → Step) : (s.modHead n f).cst = s.cst := rfl
@[simp] theorem State.modHead_slc (n : Nat) (f : Step → Step) : (s.modHead n f).slc = s.slc := rfl
@[simp] theorem State.modHead_wlc (n : Nat) (f : Step → Step) : (s.modHead n f).wlc = s.wlc := rfl
@[simp] theorem State.modHead_ppt (n : Nat) (f : Step → Step) : (s.modHead n f).ppt = s.ppt := rfl
@[simp] theorem State.modHead_lnk (n : Nat) (f : Step → Step) : (s.modHead n f).lnk = s.lnk := rfl
@[simp] theorem State.modHead_clk (n : Nat) (f : Step → Step) : (s.modHead n f).clk = s.clk := rfl
@[simp] theorem State.modHead_pending (n : Nat) (f : Step → Step) : (s.modHead n f).pending = s.pending := rfl
@[simp] theorem State.modHead_flags (n : Nat) (f : Step → Step) : (s.modHead n f).dsp.flags = s.dsp.flags := rfl

/-! ### setReason -/

@[simp] theorem State.setReason_stk (n : Nat) (r : HoldReason) : (s.setReason n r).stk = s.stk := rfl
@[simp] theorem State.setReason_pln (n : Nat) (r : HoldReason) : (s.setReason n r).pln = s.pln := rfl
@[simp] theorem State.setReason_job (n : Nat) (r : HoldReason) : (s.setReason n r).job = s.job := rfl
@[simp] theorem State.setReason_cst (n : Nat) (r : HoldReason) : (s.setReason n r).cst = s.cst := rfl
@[simp] theorem State.setReason_slc (n : Nat) (r : HoldReason) : (s.setReason n r).slc = s.slc := rfl
@[simp] theorem State.setReason_wlc (n : Nat) (r : HoldReason) : (s.setReason n r).wlc = s.wlc := rfl
@[simp] theorem State.setReason_ppt (n : Nat) (r : HoldReason) : (s.setReason n r).ppt = s.ppt := rfl
@[simp] theorem State.setReason_lnk (n : Nat) (r : HoldReason) : (s.setReason n r).lnk = s.lnk := rfl
@[simp] theorem State.setReason_clk (n : Nat) (r : HoldReason) : (s.setReason n r).clk = s.clk := rfl
@[simp] theorem State.setReason_pending (n : Nat) (r : HoldReason) : (s.setReason n r).pending = s.pending := rfl
@[simp] theorem State.setReason_flags (n : Nat) (r : HoldReason) : (s.setReason n r).dsp.flags = s.dsp.flags := rfl

/-! ### modRateSet -/

@[simp] theorem State.modRateSet_stk (k : Nat) (f : RateSet → RateSet) : (s.modRateSet k f).stk = s.stk := rfl
@[simp] theorem State.modRateSet_pln (k : Nat) (f : RateSet → RateSet) : (s.modRateSet k f).pln = s.pln := rfl
@[simp] theorem State.modRateSet_cst (k : Nat) (f : RateSet → RateSet) : (s.modRateSet k f).cst = s.cst := rfl
@[simp] theorem State.modRateSet_dsp (k : Nat) (f : RateSet → RateSet) : (s.modRateSet k f).dsp = s.dsp := rfl
@[simp] theorem State.modRateSet_slc (k : Nat) (f : RateSet → RateSet) : (s.modRateSet k f).slc = s.slc := rfl
@[simp] theorem State.modRateSet_wlc (k : Nat) (f : RateSet → RateSet) : (s.modRateSet k f).wlc = s.wlc := rfl
@[simp] theorem State.modRateSet_ppt (k : Nat) (f : RateSet → RateSet) : (s.modRateSet k f).ppt = s.ppt := rfl
@[simp] theorem State.modRateSet_lnk (k : Nat) (f : RateSet → RateSet) : (s.modRateSet k f).lnk = s.lnk := rfl
@[simp] theorem State.modRateSet_clk (k : Nat) (f : RateSet → RateSet) : (s.modRateSet k f).clk = s.clk := rfl
@[simp] theorem State.modRateSet_pending (k : Nat) (f : RateSet → RateSet) : (s.modRateSet k f).pending = s.pending := rfl
@[simp] theorem State.modRateSet_jobs (k : Nat) (f : RateSet → RateSet) : (s.modRateSet k f).job.jobs = s.job.jobs := rfl
@[simp] theorem State.modRateSet_overhead (k : Nat) (f : RateSet → RateSet) : (s.modRateSet k f).job.overhead = s.job.overhead := rfl
@[simp] theorem State.modRateSet_makeup (k : Nat) (f : RateSet → RateSet) : (s.modRateSet k f).job.makeup = s.job.makeup := rfl

/-! ### modPlacement -/

@[simp] theorem State.modPlacement_pln (j p : Nat) (f : Placement → Placement) : (s.modPlacement j p f).pln = s.pln := rfl
@[simp] theorem State.modPlacement_job (j p : Nat) (f : Placement → Placement) : (s.modPlacement j p f).job = s.job := rfl
@[simp] theorem State.modPlacement_cst (j p : Nat) (f : Placement → Placement) : (s.modPlacement j p f).cst = s.cst := rfl
@[simp] theorem State.modPlacement_dsp (j p : Nat) (f : Placement → Placement) : (s.modPlacement j p f).dsp = s.dsp := rfl
@[simp] theorem State.modPlacement_slc (j p : Nat) (f : Placement → Placement) : (s.modPlacement j p f).slc = s.slc := rfl
@[simp] theorem State.modPlacement_wlc (j p : Nat) (f : Placement → Placement) : (s.modPlacement j p f).wlc = s.wlc := rfl
@[simp] theorem State.modPlacement_ppt (j p : Nat) (f : Placement → Placement) : (s.modPlacement j p f).ppt = s.ppt := rfl
@[simp] theorem State.modPlacement_lnk (j p : Nat) (f : Placement → Placement) : (s.modPlacement j p f).lnk = s.lnk := rfl
@[simp] theorem State.modPlacement_clk (j p : Nat) (f : Placement → Placement) : (s.modPlacement j p f).clk = s.clk := rfl
@[simp] theorem State.modPlacement_pending (j p : Nat) (f : Placement → Placement) : (s.modPlacement j p f).pending = s.pending := rfl
@[simp] theorem State.modPlacement_zones (j p : Nat) (f : Placement → Placement) : (s.modPlacement j p f).stk.zones = s.stk.zones := rfl
@[simp] theorem State.modPlacement_defaultZone (j p : Nat) (f : Placement → Placement) : (s.modPlacement j p f).stk.defaultZone = s.stk.defaultZone := rfl

/-! ### addOverhead -/

@[simp] theorem State.addOverhead_stk (a : Nat) : (s.addOverhead a).stk = s.stk := rfl
@[simp] theorem State.addOverhead_pln (a : Nat) : (s.addOverhead a).pln = s.pln := rfl
@[simp] theorem State.addOverhead_cst (a : Nat) : (s.addOverhead a).cst = s.cst := rfl
@[simp] theorem State.addOverhead_dsp (a : Nat) : (s.addOverhead a).dsp = s.dsp := rfl
@[simp] theorem State.addOverhead_slc (a : Nat) : (s.addOverhead a).slc = s.slc := rfl
@[simp] theorem State.addOverhead_wlc (a : Nat) : (s.addOverhead a).wlc = s.wlc := rfl
@[simp] theorem State.addOverhead_ppt (a : Nat) : (s.addOverhead a).ppt = s.ppt := rfl
@[simp] theorem State.addOverhead_lnk (a : Nat) : (s.addOverhead a).lnk = s.lnk := rfl
@[simp] theorem State.addOverhead_clk (a : Nat) : (s.addOverhead a).clk = s.clk := rfl
@[simp] theorem State.addOverhead_pending (a : Nat) : (s.addOverhead a).pending = s.pending := rfl
@[simp] theorem State.addOverhead_jobs (a : Nat) : (s.addOverhead a).job.jobs = s.job.jobs := rfl
@[simp] theorem State.addOverhead_rateSets (a : Nat) : (s.addOverhead a).job.rateSets = s.job.rateSets := rfl
theorem State.addOverhead_overhead (a : Nat) : (s.addOverhead a).job.overhead = (satAdd Config.overheadCap s.job.overhead a).1 := rfl
@[simp] theorem State.addOverhead_makeup (a : Nat) : (s.addOverhead a).job.makeup = s.job.makeup := rfl

/-! ### setPoint -/

@[simp] theorem State.setPoint_stk (i : Nat) (p : Point) : (s.setPoint i p).stk = s.stk := rfl
@[simp] theorem State.setPoint_pln (i : Nat) (p : Point) : (s.setPoint i p).pln = s.pln := rfl
@[simp] theorem State.setPoint_job (i : Nat) (p : Point) : (s.setPoint i p).job = s.job := rfl
@[simp] theorem State.setPoint_cst (i : Nat) (p : Point) : (s.setPoint i p).cst = s.cst := rfl
@[simp] theorem State.setPoint_dsp (i : Nat) (p : Point) : (s.setPoint i p).dsp = s.dsp := rfl
@[simp] theorem State.setPoint_slc (i : Nat) (p : Point) : (s.setPoint i p).slc = s.slc := rfl
@[simp] theorem State.setPoint_wlc (i : Nat) (p : Point) : (s.setPoint i p).wlc = s.wlc := rfl
@[simp] theorem State.setPoint_lnk (i : Nat) (p : Point) : (s.setPoint i p).lnk = s.lnk := rfl
@[simp] theorem State.setPoint_clk (i : Nat) (p : Point) : (s.setPoint i p).clk = s.clk := rfl
@[simp] theorem State.setPoint_pending (i : Nat) (p : Point) : (s.setPoint i p).pending = s.pending := rfl

/-! ### handFrame -/

@[simp] theorem State.handFrame_stk (f : PartFrame) : (s.handFrame f).stk = s.stk := rfl
@[simp] theorem State.handFrame_pln (f : PartFrame) : (s.handFrame f).pln = s.pln := rfl
@[simp] theorem State.handFrame_job (f : PartFrame) : (s.handFrame f).job = s.job := rfl
@[simp] theorem State.handFrame_cst (f : PartFrame) : (s.handFrame f).cst = s.cst := rfl
@[simp] theorem State.handFrame_dsp (f : PartFrame) : (s.handFrame f).dsp = s.dsp := rfl
@[simp] theorem State.handFrame_wlc (f : PartFrame) : (s.handFrame f).wlc = s.wlc := rfl
@[simp] theorem State.handFrame_ppt (f : PartFrame) : (s.handFrame f).ppt = s.ppt := rfl
@[simp] theorem State.handFrame_lnk (f : PartFrame) : (s.handFrame f).lnk = s.lnk := rfl
@[simp] theorem State.handFrame_clk (f : PartFrame) : (s.handFrame f).clk = s.clk := rfl
@[simp] theorem State.handFrame_pending (f : PartFrame) : (s.handFrame f).pending = s.pending := rfl
@[simp] theorem State.handFrame_line (f : PartFrame) : (s.handFrame f).slc.line = s.slc.line := rfl
@[simp] theorem State.handFrame_own (f : PartFrame) : (s.handFrame f).slc.own = s.slc.own := rfl
@[simp] theorem State.handFrame_hearing (f : PartFrame) : (s.handFrame f).slc.hearing = s.slc.hearing := rfl
@[simp] theorem State.handFrame_stuck (f : PartFrame) : (s.handFrame f).slc.stuck = s.slc.stuck := rfl
@[simp] theorem State.handFrame_clears (f : PartFrame) : (s.handFrame f).slc.clears = s.slc.clears := rfl
@[simp] theorem State.handFrame_freedAfter (f : PartFrame) : (s.handFrame f).slc.freedAfter = s.slc.freedAfter := rfl
@[simp] theorem State.handFrame_window (f : PartFrame) : (s.handFrame f).slc.window = s.slc.window := rfl
theorem State.handFrame_sendList (f : PartFrame) : (s.handFrame f).slc.sendList = (s.slc.joinFrame f).sendList := rfl
theorem State.handFrame_joined (f : PartFrame) : (s.handFrame f).slc.joined = (s.slc.joinFrame f).joined := rfl
@[simp] theorem State.handFrame_haltOwed (f : PartFrame) : (s.handFrame f).slc.haltOwed = s.slc.haltOwed := rfl
@[simp] theorem State.handFrame_flowOwed (f : PartFrame) : (s.handFrame f).slc.flowOwed = s.slc.flowOwed := rfl
@[simp] theorem State.handFrame_roundLeft (f : PartFrame) : (s.handFrame f).slc.roundLeft = s.slc.roundLeft := rfl
@[simp] theorem State.handFrame_roundOwed (f : PartFrame) : (s.handFrame f).slc.roundOwed = s.slc.roundOwed := rfl
@[simp] theorem State.handFrame_turnHalt (f : PartFrame) : (s.handFrame f).slc.turnHalt = s.slc.turnHalt := rfl
@[simp] theorem State.handFrame_turnFlow (f : PartFrame) : (s.handFrame f).slc.turnFlow = s.slc.turnFlow := rfl
@[simp] theorem State.handFrame_pollInterval (f : PartFrame) : (s.handFrame f).slc.pollInterval = s.slc.pollInterval := rfl
@[simp] theorem State.handFrame_timerPeriod (f : PartFrame) : (s.handFrame f).slc.timerPeriod = s.slc.timerPeriod := rfl

/-! ### dropFrames -/

@[simp] theorem State.dropFrames_stk (out : PartFrame → Bool) : (s.dropFrames out).stk = s.stk := rfl
@[simp] theorem State.dropFrames_pln (out : PartFrame → Bool) : (s.dropFrames out).pln = s.pln := rfl
@[simp] theorem State.dropFrames_job (out : PartFrame → Bool) : (s.dropFrames out).job = s.job := rfl
@[simp] theorem State.dropFrames_cst (out : PartFrame → Bool) : (s.dropFrames out).cst = s.cst := rfl
@[simp] theorem State.dropFrames_dsp (out : PartFrame → Bool) : (s.dropFrames out).dsp = s.dsp := rfl
@[simp] theorem State.dropFrames_wlc (out : PartFrame → Bool) : (s.dropFrames out).wlc = s.wlc := rfl
@[simp] theorem State.dropFrames_ppt (out : PartFrame → Bool) : (s.dropFrames out).ppt = s.ppt := rfl
@[simp] theorem State.dropFrames_lnk (out : PartFrame → Bool) : (s.dropFrames out).lnk = s.lnk := rfl
@[simp] theorem State.dropFrames_clk (out : PartFrame → Bool) : (s.dropFrames out).clk = s.clk := rfl
@[simp] theorem State.dropFrames_pending (out : PartFrame → Bool) : (s.dropFrames out).pending = s.pending := rfl
@[simp] theorem State.dropFrames_line (out : PartFrame → Bool) : (s.dropFrames out).slc.line = s.slc.line := rfl
@[simp] theorem State.dropFrames_own (out : PartFrame → Bool) : (s.dropFrames out).slc.own = s.slc.own := rfl
@[simp] theorem State.dropFrames_hearing (out : PartFrame → Bool) : (s.dropFrames out).slc.hearing = s.slc.hearing := rfl
@[simp] theorem State.dropFrames_stuck (out : PartFrame → Bool) : (s.dropFrames out).slc.stuck = s.slc.stuck := rfl
@[simp] theorem State.dropFrames_clears (out : PartFrame → Bool) : (s.dropFrames out).slc.clears = s.slc.clears := rfl
@[simp] theorem State.dropFrames_freedAfter (out : PartFrame → Bool) : (s.dropFrames out).slc.freedAfter = s.slc.freedAfter := rfl
@[simp] theorem State.dropFrames_window (out : PartFrame → Bool) : (s.dropFrames out).slc.window = s.slc.window := rfl
theorem State.dropFrames_sendList (out : PartFrame → Bool) : (s.dropFrames out).slc.sendList = s.slc.sendList.filter (fun f => !out f) := rfl
@[simp] theorem State.dropFrames_haltOwed (out : PartFrame → Bool) : (s.dropFrames out).slc.haltOwed = s.slc.haltOwed := rfl
@[simp] theorem State.dropFrames_flowOwed (out : PartFrame → Bool) : (s.dropFrames out).slc.flowOwed = s.slc.flowOwed := rfl
@[simp] theorem State.dropFrames_roundLeft (out : PartFrame → Bool) : (s.dropFrames out).slc.roundLeft = s.slc.roundLeft := rfl
@[simp] theorem State.dropFrames_roundOwed (out : PartFrame → Bool) : (s.dropFrames out).slc.roundOwed = s.slc.roundOwed := rfl
@[simp] theorem State.dropFrames_turnHalt (out : PartFrame → Bool) : (s.dropFrames out).slc.turnHalt = s.slc.turnHalt := rfl
@[simp] theorem State.dropFrames_turnFlow (out : PartFrame → Bool) : (s.dropFrames out).slc.turnFlow = s.slc.turnFlow := rfl
@[simp] theorem State.dropFrames_pollInterval (out : PartFrame → Bool) : (s.dropFrames out).slc.pollInterval = s.slc.pollInterval := rfl
@[simp] theorem State.dropFrames_timerPeriod (out : PartFrame → Bool) : (s.dropFrames out).slc.timerPeriod = s.slc.timerPeriod := rfl

/-! ### clearHaltOwed -/

@[simp] theorem State.clearHaltOwed_stk (n : Nat) : (s.clearHaltOwed n).stk = s.stk := rfl
@[simp] theorem State.clearHaltOwed_pln (n : Nat) : (s.clearHaltOwed n).pln = s.pln := rfl
@[simp] theorem State.clearHaltOwed_job (n : Nat) : (s.clearHaltOwed n).job = s.job := rfl
@[simp] theorem State.clearHaltOwed_cst (n : Nat) : (s.clearHaltOwed n).cst = s.cst := rfl
@[simp] theorem State.clearHaltOwed_dsp (n : Nat) : (s.clearHaltOwed n).dsp = s.dsp := rfl
@[simp] theorem State.clearHaltOwed_wlc (n : Nat) : (s.clearHaltOwed n).wlc = s.wlc := rfl
@[simp] theorem State.clearHaltOwed_ppt (n : Nat) : (s.clearHaltOwed n).ppt = s.ppt := rfl
@[simp] theorem State.clearHaltOwed_lnk (n : Nat) : (s.clearHaltOwed n).lnk = s.lnk := rfl
@[simp] theorem State.clearHaltOwed_clk (n : Nat) : (s.clearHaltOwed n).clk = s.clk := rfl
@[simp] theorem State.clearHaltOwed_pending (n : Nat) : (s.clearHaltOwed n).pending = s.pending := rfl
@[simp] theorem State.clearHaltOwed_line (n : Nat) : (s.clearHaltOwed n).slc.line = s.slc.line := rfl
@[simp] theorem State.clearHaltOwed_own (n : Nat) : (s.clearHaltOwed n).slc.own = s.slc.own := rfl
@[simp] theorem State.clearHaltOwed_hearing (n : Nat) : (s.clearHaltOwed n).slc.hearing = s.slc.hearing := rfl
@[simp] theorem State.clearHaltOwed_stuck (n : Nat) : (s.clearHaltOwed n).slc.stuck = s.slc.stuck := rfl
@[simp] theorem State.clearHaltOwed_clears (n : Nat) : (s.clearHaltOwed n).slc.clears = s.slc.clears := rfl
@[simp] theorem State.clearHaltOwed_freedAfter (n : Nat) : (s.clearHaltOwed n).slc.freedAfter = s.slc.freedAfter := rfl
@[simp] theorem State.clearHaltOwed_window (n : Nat) : (s.clearHaltOwed n).slc.window = s.slc.window := rfl
@[simp] theorem State.clearHaltOwed_sendList (n : Nat) : (s.clearHaltOwed n).slc.sendList = s.slc.sendList := rfl
@[simp] theorem State.clearHaltOwed_joined (n : Nat) : (s.clearHaltOwed n).slc.joined = s.slc.joined := rfl
theorem State.clearHaltOwed_haltOwed (n : Nat) : (s.clearHaltOwed n).slc.haltOwed = s.slc.haltOwed.del n := rfl
@[simp] theorem State.clearHaltOwed_flowOwed (n : Nat) : (s.clearHaltOwed n).slc.flowOwed = s.slc.flowOwed := rfl
@[simp] theorem State.clearHaltOwed_roundLeft (n : Nat) : (s.clearHaltOwed n).slc.roundLeft = s.slc.roundLeft := rfl
@[simp] theorem State.clearHaltOwed_roundOwed (n : Nat) : (s.clearHaltOwed n).slc.roundOwed = s.slc.roundOwed := rfl
@[simp] theorem State.clearHaltOwed_turnHalt (n : Nat) : (s.clearHaltOwed n).slc.turnHalt = s.slc.turnHalt := rfl
@[simp] theorem State.clearHaltOwed_turnFlow (n : Nat) : (s.clearHaltOwed n).slc.turnFlow = s.slc.turnFlow := rfl
@[simp] theorem State.clearHaltOwed_pollInterval (n : Nat) : (s.clearHaltOwed n).slc.pollInterval = s.slc.pollInterval := rfl
@[simp] theorem State.clearHaltOwed_timerPeriod (n : Nat) : (s.clearHaltOwed n).slc.timerPeriod = s.slc.timerPeriod := rfl

/-! ### clearFlowOwed -/

@[simp] theorem State.clearFlowOwed_stk (n : Nat) : (s.clearFlowOwed n).stk = s.stk := rfl
@[simp] theorem State.clearFlowOwed_pln (n : Nat) : (s.clearFlowOwed n).pln = s.pln := rfl
@[simp] theorem State.clearFlowOwed_job (n : Nat) : (s.clearFlowOwed n).job = s.job := rfl
@[simp] theorem State.clearFlowOwed_cst (n : Nat) : (s.clearFlowOwed n).cst = s.cst := rfl
@[simp] theorem State.clearFlowOwed_dsp (n : Nat) : (s.clearFlowOwed n).dsp = s.dsp := rfl
@[simp] theorem State.clearFlowOwed_wlc (n : Nat) : (s.clearFlowOwed n).wlc = s.wlc := rfl
@[simp] theorem State.clearFlowOwed_ppt (n : Nat) : (s.clearFlowOwed n).ppt = s.ppt := rfl
@[simp] theorem State.clearFlowOwed_lnk (n : Nat) : (s.clearFlowOwed n).lnk = s.lnk := rfl
@[simp] theorem State.clearFlowOwed_clk (n : Nat) : (s.clearFlowOwed n).clk = s.clk := rfl
@[simp] theorem State.clearFlowOwed_pending (n : Nat) : (s.clearFlowOwed n).pending = s.pending := rfl
@[simp] theorem State.clearFlowOwed_line (n : Nat) : (s.clearFlowOwed n).slc.line = s.slc.line := rfl
@[simp] theorem State.clearFlowOwed_own (n : Nat) : (s.clearFlowOwed n).slc.own = s.slc.own := rfl
@[simp] theorem State.clearFlowOwed_hearing (n : Nat) : (s.clearFlowOwed n).slc.hearing = s.slc.hearing := rfl
@[simp] theorem State.clearFlowOwed_stuck (n : Nat) : (s.clearFlowOwed n).slc.stuck = s.slc.stuck := rfl
@[simp] theorem State.clearFlowOwed_clears (n : Nat) : (s.clearFlowOwed n).slc.clears = s.slc.clears := rfl
@[simp] theorem State.clearFlowOwed_freedAfter (n : Nat) : (s.clearFlowOwed n).slc.freedAfter = s.slc.freedAfter := rfl
@[simp] theorem State.clearFlowOwed_window (n : Nat) : (s.clearFlowOwed n).slc.window = s.slc.window := rfl
@[simp] theorem State.clearFlowOwed_sendList (n : Nat) : (s.clearFlowOwed n).slc.sendList = s.slc.sendList := rfl
@[simp] theorem State.clearFlowOwed_joined (n : Nat) : (s.clearFlowOwed n).slc.joined = s.slc.joined := rfl
@[simp] theorem State.clearFlowOwed_haltOwed (n : Nat) : (s.clearFlowOwed n).slc.haltOwed = s.slc.haltOwed := rfl
theorem State.clearFlowOwed_flowOwed (n : Nat) : (s.clearFlowOwed n).slc.flowOwed = s.slc.flowOwed.filter (fun m => m != n) := rfl
@[simp] theorem State.clearFlowOwed_roundLeft (n : Nat) : (s.clearFlowOwed n).slc.roundLeft = s.slc.roundLeft := rfl
@[simp] theorem State.clearFlowOwed_roundOwed (n : Nat) : (s.clearFlowOwed n).slc.roundOwed = s.slc.roundOwed := rfl
@[simp] theorem State.clearFlowOwed_turnHalt (n : Nat) : (s.clearFlowOwed n).slc.turnHalt = s.slc.turnHalt := rfl
@[simp] theorem State.clearFlowOwed_turnFlow (n : Nat) : (s.clearFlowOwed n).slc.turnFlow = s.slc.turnFlow := rfl
@[simp] theorem State.clearFlowOwed_pollInterval (n : Nat) : (s.clearFlowOwed n).slc.pollInterval = s.slc.pollInterval := rfl
@[simp] theorem State.clearFlowOwed_timerPeriod (n : Nat) : (s.clearFlowOwed n).slc.timerPeriod = s.slc.timerPeriod := rfl

/-! ### storeFlag -/

@[simp] theorem State.storeFlag_stk (k : Nat) (v : Bool) : (s.storeFlag k v).stk = s.stk := rfl
@[simp] theorem State.storeFlag_pln (k : Nat) (v : Bool) : (s.storeFlag k v).pln = s.pln := rfl
@[simp] theorem State.storeFlag_job (k : Nat) (v : Bool) : (s.storeFlag k v).job = s.job := rfl
@[simp] theorem State.storeFlag_cst (k : Nat) (v : Bool) : (s.storeFlag k v).cst = s.cst := rfl
@[simp] theorem State.storeFlag_slc (k : Nat) (v : Bool) : (s.storeFlag k v).slc = s.slc := rfl
@[simp] theorem State.storeFlag_wlc (k : Nat) (v : Bool) : (s.storeFlag k v).wlc = s.wlc := rfl
@[simp] theorem State.storeFlag_ppt (k : Nat) (v : Bool) : (s.storeFlag k v).ppt = s.ppt := rfl
@[simp] theorem State.storeFlag_lnk (k : Nat) (v : Bool) : (s.storeFlag k v).lnk = s.lnk := rfl
@[simp] theorem State.storeFlag_clk (k : Nat) (v : Bool) : (s.storeFlag k v).clk = s.clk := rfl
@[simp] theorem State.storeFlag_pending (k : Nat) (v : Bool) : (s.storeFlag k v).pending = s.pending := rfl
@[simp] theorem State.storeFlag_stations (k : Nat) (v : Bool) : (s.storeFlag k v).dsp.stations = s.dsp.stations := rfl
theorem State.storeFlag_flags (k : Nat) (v : Bool) : (s.storeFlag k v).dsp.flags = s.dsp.flags.setIfInBounds k v := rfl

/-! ### joinWaitList -/

@[simp] theorem State.joinWaitList_stk (n f : Nat) : (s.joinWaitList n f).stk = s.stk := rfl
@[simp] theorem State.joinWaitList_pln (n f : Nat) : (s.joinWaitList n f).pln = s.pln := rfl
@[simp] theorem State.joinWaitList_job (n f : Nat) : (s.joinWaitList n f).job = s.job := rfl
@[simp] theorem State.joinWaitList_cst (n f : Nat) : (s.joinWaitList n f).cst = s.cst := rfl
@[simp] theorem State.joinWaitList_dsp (n f : Nat) : (s.joinWaitList n f).dsp = s.dsp := rfl
@[simp] theorem State.joinWaitList_slc (n f : Nat) : (s.joinWaitList n f).slc = s.slc := rfl
@[simp] theorem State.joinWaitList_ppt (n f : Nat) : (s.joinWaitList n f).ppt = s.ppt := rfl
@[simp] theorem State.joinWaitList_lnk (n f : Nat) : (s.joinWaitList n f).lnk = s.lnk := rfl
@[simp] theorem State.joinWaitList_clk (n f : Nat) : (s.joinWaitList n f).clk = s.clk := rfl
@[simp] theorem State.joinWaitList_pending (n f : Nat) : (s.joinWaitList n f).pending = s.pending := rfl

/-! ### closeOwn -/

@[simp] theorem State.closeOwn_stk : (s.closeOwn).stk = s.stk := rfl
@[simp] theorem State.closeOwn_pln : (s.closeOwn).pln = s.pln := rfl
@[simp] theorem State.closeOwn_job : (s.closeOwn).job = s.job := rfl
@[simp] theorem State.closeOwn_cst : (s.closeOwn).cst = s.cst := rfl
@[simp] theorem State.closeOwn_dsp : (s.closeOwn).dsp = s.dsp := rfl
@[simp] theorem State.closeOwn_wlc : (s.closeOwn).wlc = s.wlc := rfl
@[simp] theorem State.closeOwn_ppt : (s.closeOwn).ppt = s.ppt := rfl
@[simp] theorem State.closeOwn_lnk : (s.closeOwn).lnk = s.lnk := rfl
@[simp] theorem State.closeOwn_clk : (s.closeOwn).clk = s.clk := rfl
@[simp] theorem State.closeOwn_pending : (s.closeOwn).pending = s.pending := rfl
theorem State.closeOwn_line : (s.closeOwn).slc.line = .idle := rfl
theorem State.closeOwn_own : (s.closeOwn).slc.own = none := rfl
theorem State.closeOwn_hearing : (s.closeOwn).slc.hearing = .hearing := rfl
theorem State.closeOwn_stuck : (s.closeOwn).slc.stuck = false := rfl
theorem State.closeOwn_clears : (s.closeOwn).slc.clears = [] := rfl
@[simp] theorem State.closeOwn_freedAfter : (s.closeOwn).slc.freedAfter = s.slc.freedAfter := rfl
@[simp] theorem State.closeOwn_window : (s.closeOwn).slc.window = s.slc.window := rfl
@[simp] theorem State.closeOwn_sendList : (s.closeOwn).slc.sendList = s.slc.sendList := rfl
@[simp] theorem State.closeOwn_joined : (s.closeOwn).slc.joined = s.slc.joined := rfl
@[simp] theorem State.closeOwn_haltOwed : (s.closeOwn).slc.haltOwed = s.slc.haltOwed := rfl
@[simp] theorem State.closeOwn_flowOwed : (s.closeOwn).slc.flowOwed = s.slc.flowOwed := rfl
@[simp] theorem State.closeOwn_roundLeft : (s.closeOwn).slc.roundLeft = s.slc.roundLeft := rfl
@[simp] theorem State.closeOwn_roundOwed : (s.closeOwn).slc.roundOwed = s.slc.roundOwed := rfl
@[simp] theorem State.closeOwn_turnHalt : (s.closeOwn).slc.turnHalt = s.slc.turnHalt := rfl
@[simp] theorem State.closeOwn_turnFlow : (s.closeOwn).slc.turnFlow = s.slc.turnFlow := rfl
@[simp] theorem State.closeOwn_pollInterval : (s.closeOwn).slc.pollInterval = s.slc.pollInterval := rfl
@[simp] theorem State.closeOwn_timerPeriod : (s.closeOwn).slc.timerPeriod = s.slc.timerPeriod := rfl

/-! ### cutOwn -/

@[simp] theorem State.cutOwn_stk : (s.cutOwn).stk = s.stk := rfl
@[simp] theorem State.cutOwn_pln : (s.cutOwn).pln = s.pln := rfl
@[simp] theorem State.cutOwn_job : (s.cutOwn).job = s.job := rfl
@[simp] theorem State.cutOwn_cst : (s.cutOwn).cst = s.cst := rfl
@[simp] theorem State.cutOwn_dsp : (s.cutOwn).dsp = s.dsp := rfl
@[simp] theorem State.cutOwn_wlc : (s.cutOwn).wlc = s.wlc := rfl
@[simp] theorem State.cutOwn_ppt : (s.cutOwn).ppt = s.ppt := rfl
@[simp] theorem State.cutOwn_lnk : (s.cutOwn).lnk = s.lnk := rfl
@[simp] theorem State.cutOwn_clk : (s.cutOwn).clk = s.clk := rfl
@[simp] theorem State.cutOwn_pending : (s.cutOwn).pending = s.pending := rfl
theorem State.cutOwn_line : (s.cutOwn).slc.line = .other := rfl
theorem State.cutOwn_own : (s.cutOwn).slc.own = none := rfl
@[simp] theorem State.cutOwn_hearing : (s.cutOwn).slc.hearing = s.slc.hearing := rfl
@[simp] theorem State.cutOwn_stuck : (s.cutOwn).slc.stuck = s.slc.stuck := rfl
@[simp] theorem State.cutOwn_clears : (s.cutOwn).slc.clears = s.slc.clears := rfl
@[simp] theorem State.cutOwn_freedAfter : (s.cutOwn).slc.freedAfter = s.slc.freedAfter := rfl
@[simp] theorem State.cutOwn_window : (s.cutOwn).slc.window = s.slc.window := rfl
@[simp] theorem State.cutOwn_sendList : (s.cutOwn).slc.sendList = s.slc.sendList := rfl
@[simp] theorem State.cutOwn_joined : (s.cutOwn).slc.joined = s.slc.joined := rfl
@[simp] theorem State.cutOwn_haltOwed : (s.cutOwn).slc.haltOwed = s.slc.haltOwed := rfl
@[simp] theorem State.cutOwn_flowOwed : (s.cutOwn).slc.flowOwed = s.slc.flowOwed := rfl
@[simp] theorem State.cutOwn_roundLeft : (s.cutOwn).slc.roundLeft = s.slc.roundLeft := rfl
@[simp] theorem State.cutOwn_roundOwed : (s.cutOwn).slc.roundOwed = s.slc.roundOwed := rfl
@[simp] theorem State.cutOwn_turnHalt : (s.cutOwn).slc.turnHalt = s.slc.turnHalt := rfl
@[simp] theorem State.cutOwn_turnFlow : (s.cutOwn).slc.turnFlow = s.slc.turnFlow := rfl
@[simp] theorem State.cutOwn_pollInterval : (s.cutOwn).slc.pollInterval = s.slc.pollInterval := rfl
@[simp] theorem State.cutOwn_timerPeriod : (s.cutOwn).slc.timerPeriod = s.slc.timerPeriod := rfl

/-! ### hearOther -/

@[simp] theorem State.hearOther_stk (header : Option Byte) : (s.hearOther header).stk = s.stk := rfl
@[simp] theorem State.hearOther_pln (header : Option Byte) : (s.hearOther header).pln = s.pln := rfl
@[simp] theorem State.hearOther_job (header : Option Byte) : (s.hearOther header).job = s.job := rfl
@[simp] theorem State.hearOther_cst (header : Option Byte) : (s.hearOther header).cst = s.cst := rfl
@[simp] theorem State.hearOther_dsp (header : Option Byte) : (s.hearOther header).dsp = s.dsp := rfl
@[simp] theorem State.hearOther_wlc (header : Option Byte) : (s.hearOther header).wlc = s.wlc := rfl
@[simp] theorem State.hearOther_ppt (header : Option Byte) : (s.hearOther header).ppt = s.ppt := rfl
@[simp] theorem State.hearOther_lnk (header : Option Byte) : (s.hearOther header).lnk = s.lnk := rfl
@[simp] theorem State.hearOther_clk (header : Option Byte) : (s.hearOther header).clk = s.clk := rfl
@[simp] theorem State.hearOther_pending (header : Option Byte) : (s.hearOther header).pending = s.pending := rfl
theorem State.hearOther_line (header : Option Byte) : (s.hearOther header).slc.line = .other := rfl
@[simp] theorem State.hearOther_own (header : Option Byte) : (s.hearOther header).slc.own = s.slc.own := rfl
theorem State.hearOther_hearing (header : Option Byte) : (s.hearOther header).slc.hearing = (header.map s.hearingOf).getD .hearing := rfl
@[simp] theorem State.hearOther_stuck (header : Option Byte) : (s.hearOther header).slc.stuck = s.slc.stuck := rfl
@[simp] theorem State.hearOther_clears (header : Option Byte) : (s.hearOther header).slc.clears = s.slc.clears := rfl
@[simp] theorem State.hearOther_freedAfter (header : Option Byte) : (s.hearOther header).slc.freedAfter = s.slc.freedAfter := rfl
@[simp] theorem State.hearOther_window (header : Option Byte) : (s.hearOther header).slc.window = s.slc.window := rfl
@[simp] theorem State.hearOther_sendList (header : Option Byte) : (s.hearOther header).slc.sendList = s.slc.sendList := rfl
@[simp] theorem State.hearOther_joined (header : Option Byte) : (s.hearOther header).slc.joined = s.slc.joined := rfl
@[simp] theorem State.hearOther_haltOwed (header : Option Byte) : (s.hearOther header).slc.haltOwed = s.slc.haltOwed := rfl
@[simp] theorem State.hearOther_flowOwed (header : Option Byte) : (s.hearOther header).slc.flowOwed = s.slc.flowOwed := rfl
@[simp] theorem State.hearOther_roundLeft (header : Option Byte) : (s.hearOther header).slc.roundLeft = s.slc.roundLeft := rfl
@[simp] theorem State.hearOther_roundOwed (header : Option Byte) : (s.hearOther header).slc.roundOwed = s.slc.roundOwed := rfl
@[simp] theorem State.hearOther_turnHalt (header : Option Byte) : (s.hearOther header).slc.turnHalt = s.slc.turnHalt := rfl
@[simp] theorem State.hearOther_turnFlow (header : Option Byte) : (s.hearOther header).slc.turnFlow = s.slc.turnFlow := rfl
@[simp] theorem State.hearOther_pollInterval (header : Option Byte) : (s.hearOther header).slc.pollInterval = s.slc.pollInterval := rfl
@[simp] theorem State.hearOther_timerPeriod (header : Option Byte) : (s.hearOther header).slc.timerPeriod = s.slc.timerPeriod := rfl

/-! ### findData -/

@[simp] theorem State.findData_stk (k : Option (Fin 10)) : (s.findData k).stk = s.stk := rfl
@[simp] theorem State.findData_pln (k : Option (Fin 10)) : (s.findData k).pln = s.pln := rfl
@[simp] theorem State.findData_job (k : Option (Fin 10)) : (s.findData k).job = s.job := rfl
@[simp] theorem State.findData_cst (k : Option (Fin 10)) : (s.findData k).cst = s.cst := rfl
@[simp] theorem State.findData_dsp (k : Option (Fin 10)) : (s.findData k).dsp = s.dsp := rfl
@[simp] theorem State.findData_wlc (k : Option (Fin 10)) : (s.findData k).wlc = s.wlc := rfl
@[simp] theorem State.findData_ppt (k : Option (Fin 10)) : (s.findData k).ppt = s.ppt := rfl
@[simp] theorem State.findData_lnk (k : Option (Fin 10)) : (s.findData k).lnk = s.lnk := rfl
@[simp] theorem State.findData_clk (k : Option (Fin 10)) : (s.findData k).clk = s.clk := rfl
@[simp] theorem State.findData_pending (k : Option (Fin 10)) : (s.findData k).pending = s.pending := rfl
@[simp] theorem State.findData_line (k : Option (Fin 10)) : (s.findData k).slc.line = s.slc.line := rfl
@[simp] theorem State.findData_own (k : Option (Fin 10)) : (s.findData k).slc.own = s.slc.own := rfl
@[simp] theorem State.findData_hearing (k : Option (Fin 10)) : (s.findData k).slc.hearing = s.slc.hearing := rfl
@[simp] theorem State.findData_stuck (k : Option (Fin 10)) : (s.findData k).slc.stuck = s.slc.stuck := rfl
@[simp] theorem State.findData_clears (k : Option (Fin 10)) : (s.findData k).slc.clears = s.slc.clears := rfl
theorem State.findData_freedAfter (k : Option (Fin 10)) : (s.findData k).slc.freedAfter = k := rfl
@[simp] theorem State.findData_window (k : Option (Fin 10)) : (s.findData k).slc.window = s.slc.window := rfl
@[simp] theorem State.findData_sendList (k : Option (Fin 10)) : (s.findData k).slc.sendList = s.slc.sendList := rfl
@[simp] theorem State.findData_joined (k : Option (Fin 10)) : (s.findData k).slc.joined = s.slc.joined := rfl
@[simp] theorem State.findData_haltOwed (k : Option (Fin 10)) : (s.findData k).slc.haltOwed = s.slc.haltOwed := rfl
@[simp] theorem State.findData_flowOwed (k : Option (Fin 10)) : (s.findData k).slc.flowOwed = s.slc.flowOwed := rfl
@[simp] theorem State.findData_roundLeft (k : Option (Fin 10)) : (s.findData k).slc.roundLeft = s.slc.roundLeft := rfl
@[simp] theorem State.findData_roundOwed (k : Option (Fin 10)) : (s.findData k).slc.roundOwed = s.slc.roundOwed := rfl
@[simp] theorem State.findData_turnHalt (k : Option (Fin 10)) : (s.findData k).slc.turnHalt = s.slc.turnHalt := rfl
@[simp] theorem State.findData_turnFlow (k : Option (Fin 10)) : (s.findData k).slc.turnFlow = s.slc.turnFlow := rfl
@[simp] theorem State.findData_pollInterval (k : Option (Fin 10)) : (s.findData k).slc.pollInterval = s.slc.pollInterval := rfl
@[simp] theorem State.findData_timerPeriod (k : Option (Fin 10)) : (s.findData k).slc.timerPeriod = s.slc.timerPeriod := rfl

/-! ### sendClear -/

@[simp] theorem State.sendClear_stk : (s.sendClear).stk = s.stk := rfl
@[simp] theorem State.sendClear_pln : (s.sendClear).pln = s.pln := rfl
@[simp] theorem State.sendClear_job : (s.sendClear).job = s.job := rfl
@[simp] theorem State.sendClear_cst : (s.sendClear).cst = s.cst := rfl
@[simp] theorem State.sendClear_dsp : (s.sendClear).dsp = s.dsp := rfl
@[simp] theorem State.sendClear_wlc : (s.sendClear).wlc = s.wlc := rfl
@[simp] theorem State.sendClear_ppt : (s.sendClear).ppt = s.ppt := rfl
@[simp] theorem State.sendClear_lnk : (s.sendClear).lnk = s.lnk := rfl
@[simp] theorem State.sendClear_clk : (s.sendClear).clk = s.clk := rfl
@[simp] theorem State.sendClear_pending : (s.sendClear).pending = s.pending := rfl
@[simp] theorem State.sendClear_line : (s.sendClear).slc.line = s.slc.line := rfl
@[simp] theorem State.sendClear_own : (s.sendClear).slc.own = s.slc.own := rfl
@[simp] theorem State.sendClear_hearing : (s.sendClear).slc.hearing = s.slc.hearing := rfl
@[simp] theorem State.sendClear_stuck : (s.sendClear).slc.stuck = s.slc.stuck := rfl
theorem State.sendClear_clears : (s.sendClear).slc.clears = .of s.slc.freedAfter :: s.slc.clears := rfl
theorem State.sendClear_freedAfter : (s.sendClear).slc.freedAfter = s.slc.freedAfter.map (fun _ => 0) := rfl
@[simp] theorem State.sendClear_window : (s.sendClear).slc.window = s.slc.window := rfl
@[simp] theorem State.sendClear_sendList : (s.sendClear).slc.sendList = s.slc.sendList := rfl
@[simp] theorem State.sendClear_joined : (s.sendClear).slc.joined = s.slc.joined := rfl
@[simp] theorem State.sendClear_haltOwed : (s.sendClear).slc.haltOwed = s.slc.haltOwed := rfl
@[simp] theorem State.sendClear_flowOwed : (s.sendClear).slc.flowOwed = s.slc.flowOwed := rfl
@[simp] theorem State.sendClear_roundLeft : (s.sendClear).slc.roundLeft = s.slc.roundLeft := rfl
@[simp] theorem State.sendClear_roundOwed : (s.sendClear).slc.roundOwed = s.slc.roundOwed := rfl
@[simp] theorem State.sendClear_turnHalt : (s.sendClear).slc.turnHalt = s.slc.turnHalt := rfl
@[simp] theorem State.sendClear_turnFlow : (s.sendClear).slc.turnFlow = s.slc.turnFlow := rfl
@[simp] theorem State.sendClear_pollInterval : (s.sendClear).slc.pollInterval = s.slc.pollInterval := rfl
@[simp] theorem State.sendClear_timerPeriod : (s.sendClear).slc.timerPeriod = s.slc.timerPeriod := rfl

/-! ### beginEvent -/

@[simp] theorem State.beginEvent_stk : (s.beginEvent).stk = s.stk := rfl
@[simp] theorem State.beginEvent_pln : (s.beginEvent).pln = s.pln := rfl
@[simp] theorem State.beginEvent_job : (s.beginEvent).job = s.job := rfl
@[simp] theorem State.beginEvent_cst : (s.beginEvent).cst = s.cst := rfl
@[simp] theorem State.beginEvent_dsp : (s.beginEvent).dsp = s.dsp := rfl
@[simp] theorem State.beginEvent_wlc : (s.beginEvent).wlc = s.wlc := rfl
@[simp] theorem State.beginEvent_ppt : (s.beginEvent).ppt = s.ppt := rfl
@[simp] theorem State.beginEvent_lnk : (s.beginEvent).lnk = s.lnk := rfl
@[simp] theorem State.beginEvent_clk : (s.beginEvent).clk = s.clk := rfl
@[simp] theorem State.beginEvent_pending : (s.beginEvent).pending = s.pending := rfl
@[simp] theorem State.beginEvent_line : (s.beginEvent).slc.line = s.slc.line := rfl
@[simp] theorem State.beginEvent_own : (s.beginEvent).slc.own = s.slc.own := rfl
@[simp] theorem State.beginEvent_hearing : (s.beginEvent).slc.hearing = s.slc.hearing := rfl
@[simp] theorem State.beginEvent_stuck : (s.beginEvent).slc.stuck = s.slc.stuck := rfl
@[simp] theorem State.beginEvent_clears : (s.beginEvent).slc.clears = s.slc.clears := rfl
@[simp] theorem State.beginEvent_freedAfter : (s.beginEvent).slc.freedAfter = s.slc.freedAfter := rfl
@[simp] theorem State.beginEvent_window : (s.beginEvent).slc.window = s.slc.window := rfl
@[simp] theorem State.beginEvent_sendList : (s.beginEvent).slc.sendList = s.slc.sendList := rfl
theorem State.beginEvent_joined : (s.beginEvent).slc.joined = 0 := rfl
@[simp] theorem State.beginEvent_haltOwed : (s.beginEvent).slc.haltOwed = s.slc.haltOwed := rfl
@[simp] theorem State.beginEvent_flowOwed : (s.beginEvent).slc.flowOwed = s.slc.flowOwed := rfl
@[simp] theorem State.beginEvent_roundLeft : (s.beginEvent).slc.roundLeft = s.slc.roundLeft := rfl
@[simp] theorem State.beginEvent_roundOwed : (s.beginEvent).slc.roundOwed = s.slc.roundOwed := rfl
@[simp] theorem State.beginEvent_turnHalt : (s.beginEvent).slc.turnHalt = s.slc.turnHalt := rfl
@[simp] theorem State.beginEvent_turnFlow : (s.beginEvent).slc.turnFlow = s.slc.turnFlow := rfl
@[simp] theorem State.beginEvent_pollInterval : (s.beginEvent).slc.pollInterval = s.slc.pollInterval := rfl
@[simp] theorem State.beginEvent_timerPeriod : (s.beginEvent).slc.timerPeriod = s.slc.timerPeriod := rfl

/-! ### endEvent -/

@[simp] theorem State.endEvent_stk (b : State) : (State.endEvent b s).stk = s.stk := rfl
@[simp] theorem State.endEvent_pln (b : State) : (State.endEvent b s).pln = s.pln := rfl
@[simp] theorem State.endEvent_job (b : State) : (State.endEvent b s).job = s.job := rfl
@[simp] theorem State.endEvent_cst (b : State) : (State.endEvent b s).cst = s.cst := rfl
@[simp] theorem State.endEvent_dsp (b : State) : (State.endEvent b s).dsp = s.dsp := rfl
@[simp] theorem State.endEvent_wlc (b : State) : (State.endEvent b s).wlc = s.wlc := rfl
@[simp] theorem State.endEvent_ppt (b : State) : (State.endEvent b s).ppt = s.ppt := rfl
@[simp] theorem State.endEvent_lnk (b : State) : (State.endEvent b s).lnk = s.lnk := rfl
@[simp] theorem State.endEvent_clk (b : State) : (State.endEvent b s).clk = s.clk := rfl
@[simp] theorem State.endEvent_pending (b : State) : (State.endEvent b s).pending = s.pending := rfl
@[simp] theorem State.endEvent_line (b : State) : (State.endEvent b s).slc.line = s.slc.line := rfl
@[simp] theorem State.endEvent_own (b : State) : (State.endEvent b s).slc.own = s.slc.own := rfl
@[simp] theorem State.endEvent_hearing (b : State) : (State.endEvent b s).slc.hearing = s.slc.hearing := rfl
@[simp] theorem State.endEvent_stuck (b : State) : (State.endEvent b s).slc.stuck = s.slc.stuck := rfl
@[simp] theorem State.endEvent_clears (b : State) : (State.endEvent b s).slc.clears = s.slc.clears := rfl
@[simp] theorem State.endEvent_freedAfter (b : State) : (State.endEvent b s).slc.freedAfter = s.slc.freedAfter := rfl
@[simp] theorem State.endEvent_window (b : State) : (State.endEvent b s).slc.window = s.slc.window := rfl
@[simp] theorem State.endEvent_sendList (b : State) : (State.endEvent b s).slc.sendList = s.slc.sendList := rfl
theorem State.endEvent_joined (b : State) : (State.endEvent b s).slc.joined = b.slc.joined := rfl
@[simp] theorem State.endEvent_haltOwed (b : State) : (State.endEvent b s).slc.haltOwed = s.slc.haltOwed := rfl
@[simp] theorem State.endEvent_flowOwed (b : State) : (State.endEvent b s).slc.flowOwed = s.slc.flowOwed := rfl
@[simp] theorem State.endEvent_roundLeft (b : State) : (State.endEvent b s).slc.roundLeft = s.slc.roundLeft := rfl
@[simp] theorem State.endEvent_roundOwed (b : State) : (State.endEvent b s).slc.roundOwed = s.slc.roundOwed := rfl
@[simp] theorem State.endEvent_turnHalt (b : State) : (State.endEvent b s).slc.turnHalt = s.slc.turnHalt := rfl
@[simp] theorem State.endEvent_turnFlow (b : State) : (State.endEvent b s).slc.turnFlow = s.slc.turnFlow := rfl
@[simp] theorem State.endEvent_pollInterval (b : State) : (State.endEvent b s).slc.pollInterval = s.slc.pollInterval := rfl
@[simp] theorem State.endEvent_timerPeriod (b : State) : (State.endEvent b s).slc.timerPeriod = s.slc.timerPeriod := rfl

/-! ### clearFailures -/

@[simp] theorem State.clearFailures_stk (n : Nat) : (s.clearFailures n).stk = s.stk := rfl
@[simp] theorem State.clearFailures_pln (n : Nat) : (s.clearFailures n).pln = s.pln := rfl
@[simp] theorem State.clearFailures_job (n : Nat) : (s.clearFailures n).job = s.job := rfl
@[simp] theorem State.clearFailures_cst (n : Nat) : (s.clearFailures n).cst = s.cst := rfl
@[simp] theorem State.clearFailures_slc (n : Nat) : (s.clearFailures n).slc = s.slc := rfl
@[simp] theorem State.clearFailures_wlc (n : Nat) : (s.clearFailures n).wlc = s.wlc := rfl
@[simp] theorem State.clearFailures_ppt (n : Nat) : (s.clearFailures n).ppt = s.ppt := rfl
@[simp] theorem State.clearFailures_lnk (n : Nat) : (s.clearFailures n).lnk = s.lnk := rfl
@[simp] theorem State.clearFailures_clk (n : Nat) : (s.clearFailures n).clk = s.clk := rfl
@[simp] theorem State.clearFailures_pending (n : Nat) : (s.clearFailures n).pending = s.pending := rfl
@[simp] theorem State.clearFailures_flags (n : Nat) : (s.clearFailures n).dsp.flags = s.dsp.flags := rfl

/-! ### oweHalt -/

@[simp] theorem State.oweHalt_stk (n tok : Nat) (foreign : Bool) : (s.oweHalt n tok foreign).stk = s.stk := rfl
@[simp] theorem State.oweHalt_pln (n tok : Nat) (foreign : Bool) : (s.oweHalt n tok foreign).pln = s.pln := rfl
@[simp] theorem State.oweHalt_job (n tok : Nat) (foreign : Bool) : (s.oweHalt n tok foreign).job = s.job := rfl
@[simp] theorem State.oweHalt_cst (n tok : Nat) (foreign : Bool) : (s.oweHalt n tok foreign).cst = s.cst := rfl
@[simp] theorem State.oweHalt_dsp (n tok : Nat) (foreign : Bool) : (s.oweHalt n tok foreign).dsp = s.dsp := rfl
@[simp] theorem State.oweHalt_wlc (n tok : Nat) (foreign : Bool) : (s.oweHalt n tok foreign).wlc = s.wlc := rfl
@[simp] theorem State.oweHalt_ppt (n tok : Nat) (foreign : Bool) : (s.oweHalt n tok foreign).ppt = s.ppt := rfl
@[simp] theorem State.oweHalt_lnk (n tok : Nat) (foreign : Bool) : (s.oweHalt n tok foreign).lnk = s.lnk := rfl
@[simp] theorem State.oweHalt_clk (n tok : Nat) (foreign : Bool) : (s.oweHalt n tok foreign).clk = s.clk := rfl
@[simp] theorem State.oweHalt_pending (n tok : Nat) (foreign : Bool) : (s.oweHalt n tok foreign).pending = s.pending := rfl
@[simp] theorem State.oweHalt_line (n tok : Nat) (foreign : Bool) : (s.oweHalt n tok foreign).slc.line = s.slc.line := rfl
@[simp] theorem State.oweHalt_own (n tok : Nat) (foreign : Bool) : (s.oweHalt n tok foreign).slc.own = s.slc.own := rfl
@[simp] theorem State.oweHalt_hearing (n tok : Nat) (foreign : Bool) : (s.oweHalt n tok foreign).slc.hearing = s.slc.hearing := rfl
@[simp] theorem State.oweHalt_stuck (n tok : Nat) (foreign : Bool) : (s.oweHalt n tok foreign).slc.stuck = s.slc.stuck := rfl
@[simp] theorem State.oweHalt_clears (n tok : Nat) (foreign : Bool) : (s.oweHalt n tok foreign).slc.clears = s.slc.clears := rfl
@[simp] theorem State.oweHalt_freedAfter (n tok : Nat) (foreign : Bool) : (s.oweHalt n tok foreign).slc.freedAfter = s.slc.freedAfter := rfl
@[simp] theorem State.oweHalt_window (n tok : Nat) (foreign : Bool) : (s.oweHalt n tok foreign).slc.window = s.slc.window := rfl
@[simp] theorem State.oweHalt_sendList (n tok : Nat) (foreign : Bool) : (s.oweHalt n tok foreign).slc.sendList = s.slc.sendList := rfl
@[simp] theorem State.oweHalt_joined (n tok : Nat) (foreign : Bool) : (s.oweHalt n tok foreign).slc.joined = s.slc.joined := rfl
theorem State.oweHalt_haltOwed (n tok : Nat) (foreign : Bool) : (s.oweHalt n tok foreign).slc.haltOwed = s.slc.haltOwed.put n { token := tok, foreign := foreign } := rfl
@[simp] theorem State.oweHalt_flowOwed (n tok : Nat) (foreign : Bool) : (s.oweHalt n tok foreign).slc.flowOwed = s.slc.flowOwed := rfl
@[simp] theorem State.oweHalt_roundLeft (n tok : Nat) (foreign : Bool) : (s.oweHalt n tok foreign).slc.roundLeft = s.slc.roundLeft := rfl
@[simp] theorem State.oweHalt_roundOwed (n tok : Nat) (foreign : Bool) : (s.oweHalt n tok foreign).slc.roundOwed = s.slc.roundOwed := rfl
@[simp] theorem State.oweHalt_turnHalt (n tok : Nat) (foreign : Bool) : (s.oweHalt n tok foreign).slc.turnHalt = s.slc.turnHalt := rfl
@[simp] theorem State.oweHalt_turnFlow (n tok : Nat) (foreign : Bool) : (s.oweHalt n tok foreign).slc.turnFlow = s.slc.turnFlow := rfl
@[simp] theorem State.oweHalt_pollInterval (n tok : Nat) (foreign : Bool) : (s.oweHalt n tok foreign).slc.pollInterval = s.slc.pollInterval := rfl
@[simp] theorem State.oweHalt_timerPeriod (n tok : Nat) (foreign : Bool) : (s.oweHalt n tok foreign).slc.timerPeriod = s.slc.timerPeriod := rfl

/-! ### accrualBoundary -/

@[simp] theorem State.accrualBoundary_stk (n rate : Nat) : (s.accrualBoundary n rate).stk = s.stk := rfl
@[simp] theorem State.accrualBoundary_pln (n rate : Nat) : (s.accrualBoundary n rate).pln = s.pln := rfl
@[simp] theorem State.accrualBoundary_job (n rate : Nat) : (s.accrualBoundary n rate).job = s.job := rfl
@[simp] theorem State.accrualBoundary_dsp (n rate : Nat) : (s.accrualBoundary n rate).dsp = s.dsp := rfl
@[simp] theorem State.accrualBoundary_slc (n rate : Nat) : (s.accrualBoundary n rate).slc = s.slc := rfl
@[simp] theorem State.accrualBoundary_wlc (n rate : Nat) : (s.accrualBoundary n rate).wlc = s.wlc := rfl
@[simp] theorem State.accrualBoundary_ppt (n rate : Nat) : (s.accrualBoundary n rate).ppt = s.ppt := rfl
@[simp] theorem State.accrualBoundary_lnk (n rate : Nat) : (s.accrualBoundary n rate).lnk = s.lnk := rfl
@[simp] theorem State.accrualBoundary_clk (n rate : Nat) : (s.accrualBoundary n rate).clk = s.clk := rfl
@[simp] theorem State.accrualBoundary_pending (n rate : Nat) : (s.accrualBoundary n rate).pending = s.pending := rfl

/-! ### beginRound -/

@[simp] theorem State.beginRound_stk : (s.beginRound).stk = s.stk := rfl
@[simp] theorem State.beginRound_pln : (s.beginRound).pln = s.pln := rfl
@[simp] theorem State.beginRound_job : (s.beginRound).job = s.job := rfl
@[simp] theorem State.beginRound_cst : (s.beginRound).cst = s.cst := rfl
@[simp] theorem State.beginRound_dsp : (s.beginRound).dsp = s.dsp := rfl
@[simp] theorem State.beginRound_wlc : (s.beginRound).wlc = s.wlc := rfl
@[simp] theorem State.beginRound_ppt : (s.beginRound).ppt = s.ppt := rfl
@[simp] theorem State.beginRound_lnk : (s.beginRound).lnk = s.lnk := rfl
@[simp] theorem State.beginRound_clk : (s.beginRound).clk = s.clk := rfl
@[simp] theorem State.beginRound_pending : (s.beginRound).pending = s.pending := rfl
@[simp] theorem State.beginRound_line : (s.beginRound).slc.line = s.slc.line := rfl
@[simp] theorem State.beginRound_own : (s.beginRound).slc.own = s.slc.own := rfl
@[simp] theorem State.beginRound_hearing : (s.beginRound).slc.hearing = s.slc.hearing := rfl
@[simp] theorem State.beginRound_stuck : (s.beginRound).slc.stuck = s.slc.stuck := rfl
@[simp] theorem State.beginRound_clears : (s.beginRound).slc.clears = s.slc.clears := rfl
@[simp] theorem State.beginRound_freedAfter : (s.beginRound).slc.freedAfter = s.slc.freedAfter := rfl
@[simp] theorem State.beginRound_window : (s.beginRound).slc.window = s.slc.window := rfl
@[simp] theorem State.beginRound_sendList : (s.beginRound).slc.sendList = s.slc.sendList := rfl
@[simp] theorem State.beginRound_joined : (s.beginRound).slc.joined = s.slc.joined := rfl
@[simp] theorem State.beginRound_haltOwed : (s.beginRound).slc.haltOwed = s.slc.haltOwed := rfl
@[simp] theorem State.beginRound_flowOwed : (s.beginRound).slc.flowOwed = s.slc.flowOwed := rfl
theorem State.beginRound_roundLeft : (s.beginRound).slc.roundLeft = s.dsp.stations.keys := rfl
theorem State.beginRound_roundOwed : (s.beginRound).slc.roundOwed = false := rfl
@[simp] theorem State.beginRound_turnHalt : (s.beginRound).slc.turnHalt = s.slc.turnHalt := rfl
@[simp] theorem State.beginRound_turnFlow : (s.beginRound).slc.turnFlow = s.slc.turnFlow := rfl
@[simp] theorem State.beginRound_pollInterval : (s.beginRound).slc.pollInterval = s.slc.pollInterval := rfl
@[simp] theorem State.beginRound_timerPeriod : (s.beginRound).slc.timerPeriod = s.slc.timerPeriod := rfl

/-! ### makeupPulse -/

@[simp] theorem State.makeupPulse_stk : (s.makeupPulse).stk = s.stk := rfl
@[simp] theorem State.makeupPulse_pln : (s.makeupPulse).pln = s.pln := rfl
@[simp] theorem State.makeupPulse_cst : (s.makeupPulse).cst = s.cst := rfl
@[simp] theorem State.makeupPulse_dsp : (s.makeupPulse).dsp = s.dsp := rfl
@[simp] theorem State.makeupPulse_slc : (s.makeupPulse).slc = s.slc := rfl
@[simp] theorem State.makeupPulse_wlc : (s.makeupPulse).wlc = s.wlc := rfl
@[simp] theorem State.makeupPulse_ppt : (s.makeupPulse).ppt = s.ppt := rfl
@[simp] theorem State.makeupPulse_lnk : (s.makeupPulse).lnk = s.lnk := rfl
@[simp] theorem State.makeupPulse_clk : (s.makeupPulse).clk = s.clk := rfl
@[simp] theorem State.makeupPulse_pending : (s.makeupPulse).pending = s.pending := rfl
@[simp] theorem State.makeupPulse_jobs : (s.makeupPulse).job.jobs = s.job.jobs := rfl
@[simp] theorem State.makeupPulse_rateSets : (s.makeupPulse).job.rateSets = s.job.rateSets := rfl
@[simp] theorem State.makeupPulse_overhead : (s.makeupPulse).job.overhead = s.job.overhead := rfl

end Sys2Proof.Machine
end

