-- ==== Sys2Proof/Laws/Table.lean ====
section
/-!
SUPPORT. Laws of the tables: what each operation on a table reads back as, and that each keeps the canonical form.
-/
namespace Sys2Proof.Machine

variable {α : Type}

/-! ### Reading back -/

@[simp] theorem Tbl.get?_nil (k : Nat) : Tbl.get? ([] : Tbl α) k = none := rfl

theorem Tbl.get?_cons (e : Nat × α) (t : Tbl α) (k : Nat) : Tbl.get? (e :: t) k = if e.1 = k then some e.2 else Tbl.get? t k := rfl

theorem Tbl.get?_put_self (t : Tbl α) (k : Nat) (v : α) : (t.put k v).get? k = some v := by
  induction t with
  | nil => simp [Tbl.put, Tbl.get?]
  | cons e t ih =>
    simp only [Tbl.put]
    split
    · simp [Tbl.get?]
    · split
      · simp [Tbl.get?]
      · simp [Tbl.get?, *]

theorem Tbl.get?_put_ne (t : Tbl α) {k j : Nat} (v : α) (h : j ≠ k) : (t.put k v).get? j = t.get? j := by
  have hk : ¬k = j := fun e => h e.symm
  induction t with
  | nil => simp [Tbl.put, Tbl.get?, hk]
  | cons e t ih =>
    simp only [Tbl.put]
    split
    · simp [Tbl.get?, hk]
    · split
      · next he => simp [Tbl.get?, hk, he]
      · simp [Tbl.get?, ih]

/-- What a table holds after a write. -/
theorem Tbl.get?_put (t : Tbl α) (k j : Nat) (v : α) : (t.put k v).get? j = if j = k then some v else t.get? j := by
  split
  · next h => subst h; exact t.get?_put_self j v
  · next h => exact t.get?_put_ne v h

/-- What a table holds after a removal. -/
theorem Tbl.get?_del (t : Tbl α) (k j : Nat) : (t.del k).get? j = if j = k then none else t.get? j := by
  induction t with
  | nil => simp [Tbl.del]
  | cons e t ih =>
    unfold Tbl.del at ih ⊢
    by_cases he : e.1 = k
    · simp only [List.filter_cons, he, bne_self_eq_false, Bool.false_eq_true, if_false, ih, Tbl.get?_cons]
      by_cases hj : j = k
      · simp [hj]
      · simp only [if_neg hj, if_neg (fun h : k = j => hj h.symm)]
    · simp only [List.filter_cons, bne_iff_ne, ne_eq, he, not_false_eq_true, if_true, Tbl.get?_cons, ih]
      by_cases hj : j = k
      · subst hj; simp [he]
      · simp [hj]

/-- What a table holds after a change of one record. -/
theorem Tbl.get?_modify (t : Tbl α) (k j : Nat) (f : α → α) :
    (t.modify k f).get? j = if j = k then (t.get? j).map f else t.get? j := by
  induction t with
  | nil => simp [Tbl.modify]
  | cons e t ih =>
    unfold Tbl.modify at ih ⊢
    by_cases he : e.1 = k <;> by_cases hj : e.1 = j <;> by_cases hjk : j = k <;> simp_all [Tbl.get?_cons]

/-- What a table holds after a change of every record. -/
theorem Tbl.get?_mapVals (t : Tbl α) (f : Nat → α → α) (j : Nat) : (t.mapVals f).get? j = (t.get? j).map (f j) := by
  induction t with
  | nil => simp [Tbl.mapVals]
  | cons e t ih =>
    unfold Tbl.mapVals at ih ⊢
    by_cases hj : e.1 = j
    · subst hj; simp [Tbl.get?_cons]
    · simp [Tbl.get?_cons, hj, ih]

/-- A record that a table answers with stands in it under its number. -/
theorem Tbl.mem_of_get? {t : Tbl α} {k : Nat} {v : α} (h : t.get? k = some v) : (k, v) ∈ t := by
  induction t with
  | nil => simp at h
  | cons e t ih =>
    rw [Tbl.get?_cons] at h
    split at h
    · next he => cases h; cases e; simp_all
    · exact List.mem_cons_of_mem _ (ih h)

/-- A number that a table does not answer stands on no record of it. -/
theorem Tbl.get?_eq_none {t : Tbl α} {k : Nat} : t.get? k = none ↔ ∀ e ∈ t, e.1 ≠ k := by
  induction t with
  | nil => simp
  | cons e t ih => rw [Tbl.get?_cons]; split <;> simp_all

theorem Tbl.has_iff {t : Tbl α} {k : Nat} : t.has k = true ↔ t.get? k ≠ none := by
  simp [Tbl.has, Option.isSome_iff_ne_none]

/-- In a sorted table every record is the one its number answers with. -/
theorem Tbl.get?_of_mem {t : Tbl α} (hs : t.sorted) {e : Nat × α} (he : e ∈ t) : t.get? e.1 = some e.2 := by
  induction t with
  | nil => cases he
  | cons a t ih =>
    simp only [Tbl.sorted, Tbl.keys, List.map_cons, List.pairwise_cons, List.mem_map, forall_exists_index, and_imp] at hs
    rw [Tbl.get?_cons]
    rcases List.mem_cons.mp he with rfl | he
    · simp
    · have := hs.1 _ e he rfl
      rw [if_neg (by omega)]
      exact ih hs.2 he

/-! ### The canonical form -/

@[simp] theorem Tbl.sorted_nil : Tbl.sorted ([] : Tbl α) := List.Pairwise.nil

@[simp] theorem Tbl.keys_modify (t : Tbl α) (k : Nat) (f : α → α) : (t.modify k f).keys = t.keys := by
  simp only [Tbl.keys, Tbl.modify, List.map_map]
  apply List.map_congr_left
  intro e _
  simp only [Function.comp]
  split <;> rfl

@[simp] theorem Tbl.keys_mapVals (t : Tbl α) (f : Nat → α → α) : (t.mapVals f).keys = t.keys := by
  simp [Tbl.keys, Tbl.mapVals, Function.comp_def]

@[simp] theorem Tbl.length_modify (t : Tbl α) (k : Nat) (f : α → α) : (t.modify k f).length = t.length := by
  simp [Tbl.modify]

@[simp] theorem Tbl.length_mapVals (t : Tbl α) (f : Nat → α → α) : (t.mapVals f).length = t.length := by
  simp [Tbl.mapVals]

theorem Tbl.sorted_modify {t : Tbl α} (h : t.sorted) (k : Nat) (f : α → α) : (t.modify k f).sorted := by
  unfold Tbl.sorted; rw [Tbl.keys_modify]; exact h

theorem Tbl.sorted_mapVals {t : Tbl α} (h : t.sorted) (f : Nat → α → α) : (t.mapVals f).sorted := by
  unfold Tbl.sorted; rw [Tbl.keys_mapVals]; exact h

theorem Tbl.sorted_del {t : Tbl α} (h : t.sorted) (k : Nat) : (t.del k).sorted :=
  List.Pairwise.sublist (List.Sublist.map _ List.filter_sublist) h

/-- Where a write puts its record: between those with lower numbers and the rest, in the place of the one with its number if there is one. In a sorted
table the rest have higher numbers. -/
theorem Tbl.put_split (t : Tbl α) (k : Nat) (v : α) :
    ∃ low same high, t = low ++ (same ++ high) ∧ t.put k v = low ++ (k, v) :: high ∧ same.length ≤ 1 ∧ (∀ e ∈ low, e.1 < k) ∧
      (∀ e ∈ same, e.1 = k) ∧ (t.sorted → ∀ e ∈ high, k < e.1) := by
  induction t with
  | nil => exact ⟨[], [], [], by simp [Tbl.put]⟩
  | cons x t ih =>
    rcases Nat.lt_trichotomy k x.1 with hk | hk | hk
    · refine ⟨[], [], x :: t, rfl, by simp [Tbl.put, hk], Nat.zero_le 1, by simp, by simp, fun hs => ?_⟩
      have hx := (List.pairwise_cons.mp hs).1
      exact List.forall_mem_cons.mpr ⟨hk, fun e he => Nat.lt_trans hk (hx _ (List.mem_map_of_mem he))⟩
    · refine ⟨[], [x], t, rfl, by simp [Tbl.put, hk], Nat.le_refl 1, by simp, by simp [hk], fun hs e he => ?_⟩
      exact hk ▸ (List.pairwise_cons.mp hs).1 _ (List.mem_map_of_mem he)
    · obtain ⟨low, same, high, ht, hp, hl, h1, h2, h3⟩ := ih
      refine ⟨x :: low, same, high, congrArg (x :: ·) ht, ?_, hl, by simpa [hk] using h1, h2, fun hs => h3 (List.pairwise_cons.mp hs).2⟩
      simp [Tbl.put, hp, Nat.lt_asymm hk, Nat.ne_of_lt hk]

/-- The numbers of a table after a write: those it had, and the one written. -/
theorem Tbl.mem_keys_put {t : Tbl α} {k j : Nat} {v : α} : j ∈ (t.put k v).keys ↔ j = k ∨ j ∈ t.keys := by
  obtain ⟨low, same, high, ht, hp, -, -, h2, -⟩ := t.put_split k v
  have hs : j ∈ same.map (·.1) → j = k := fun h => by obtain ⟨e, he, rfl⟩ := List.mem_map.mp h; exact h2 e he
  rw [hp, congrArg Tbl.keys ht]
  simp only [Tbl.keys, List.map_append, List.map_cons, List.mem_append, List.mem_cons]
  grind

theorem Tbl.sorted_put {t : Tbl α} (h : t.sorted) (k : Nat) (v : α) : (t.put k v).sorted := by
  obtain ⟨low, same, high, ht, hp, -, h1, -, h3⟩ := t.put_split k v
  have h3 := h3 h
  rw [ht] at h
  rw [hp]
  simp only [Tbl.sorted, Tbl.keys, List.map_append, List.map_cons, List.pairwise_append, List.pairwise_cons, List.forall_mem_cons,
    List.forall_mem_map] at h ⊢
  exact ⟨h.1, ⟨h3, h.2.1.2.1⟩, fun e he => ⟨h1 e he, fun d hd => Nat.lt_trans (h1 e he) (h3 d hd)⟩⟩

/-- A write lengthens a table by at most one record. -/
theorem Tbl.length_put_le (t : Tbl α) (k : Nat) (v : α) : (t.put k v).length ≤ t.length + 1 := by
  obtain ⟨low, same, high, ht, hp, -⟩ := t.put_split k v
  rw [hp, congrArg List.length ht]
  simp only [List.length_append, List.length_cons]; omega

/-- A removal does not lengthen a table. -/
theorem Tbl.length_del_le (t : Tbl α) (k : Nat) : (t.del k).length ≤ t.length := List.length_filter_le _ _

/-- A removal of a record that is there shortens a table. -/
theorem Tbl.length_del_lt {t : Tbl α} {k : Nat} (h : t.get? k ≠ none) : (t.del k).length < t.length := by
  rcases Option.ne_none_iff_exists'.mp h with ⟨v, hv⟩
  exact List.length_filter_lt_length_iff_exists.mpr ⟨(k, v), Tbl.mem_of_get? hv, by simp⟩

/-- The records of a table after a write: those it had, and the one written. -/
theorem Tbl.mem_put {t : Tbl α} {k : Nat} {v : α} {e : Nat × α} (h : e ∈ t.put k v) : e = (k, v) ∨ e ∈ t := by
  obtain ⟨low, same, high, ht, hp, -⟩ := t.put_split k v
  rw [hp] at h; rw [ht]
  simp only [List.mem_append, List.mem_cons] at h ⊢
  grind

theorem Tbl.mem_del {t : Tbl α} {k : Nat} {e : Nat × α} : e ∈ t.del k ↔ e ∈ t ∧ e.1 ≠ k := by
  simp [Tbl.del, List.mem_filter]

/-- The records of a table after a change of one number: the changed and the others. -/
theorem Tbl.mem_modify {t : Tbl α} {k : Nat} {f : α → α} {e : Nat × α} :
    e ∈ t.modify k f ↔ ∃ a ∈ t, e = (a.1, if a.1 = k then f a.2 else a.2) := by
  simp only [Tbl.modify, List.mem_map]
  constructor
  · rintro ⟨a, ha, rfl⟩; exact ⟨a, ha, by split <;> rfl⟩
  · rintro ⟨a, ha, rfl⟩; exact ⟨a, ha, by split <;> rfl⟩

end Sys2Proof.Machine
end

