-- ==== Sys2Proof/Laws/Records.lean ====
section
/-!
SUPPORT. What the records read as after each small update: slabs, jobs, pieces, stations, heads, points, rate sets, flags.
-/
namespace Sys2Proof.Machine

variable (s t : State)

/-! ### Slabs -/

theorem State.slab?_congr {s t : State} (h : t.stk.slabs = s.stk.slabs) (k : Nat) : t.slab? k = s.slab? k := by
  unfold State.slab?; rw [h]

theorem State.slab?_modSlab (id k : Nat) (f : Slab → Slab) :
    (s.modSlab id f).slab? k = if k = id then (s.slab? k).map f else s.slab? k := Tbl.get?_modify _ _ _ _

theorem State.slab?_putSlab (id k : Nat) (sl : Slab) : (s.putSlab id sl).slab? k = if k = id then some sl else s.slab? k :=
  Tbl.get?_put _ _ _ _

theorem State.slab?_delSlab (id k : Nat) : (s.delSlab id).slab? k = if k = id then none else s.slab? k := Tbl.get?_del _ _ _

/-- A change of placements changes a slab's placements alone, and leaves their number. -/
theorem State.slab?_modPlacement (j p k : Nat) (f : Placement → Placement) :
    (s.modPlacement j p f).slab? k = (s.slab? k).map (fun sl =>
      { sl with placements := sl.placements.map (fun q => if q.job == j && q.piece == p then f q else q) }) :=
  Tbl.get?_mapVals s.stk.slabs (fun _ sl =>
    { sl with placements := sl.placements.map (fun q => if q.job == j && q.piece == p then f q else q) }) k

/-! ### Jobs and pieces -/

theorem State.job?_congr {s t : State} (h : t.job.jobs = s.job.jobs) (j : Nat) : t.job? j = s.job? j := by
  unfold State.job?; rw [h]

theorem State.piece?_congr {s t : State} (h : t.job.jobs = s.job.jobs) (j p : Nat) : t.piece? j p = s.piece? j p := by
  unfold State.piece?; rw [State.job?_congr h]

theorem State.job?_modJob (j k : Nat) (f : Job → Job) : (s.modJob j f).job? k = if k = j then (s.job? k).map f else s.job? k :=
  Tbl.get?_modify _ _ _ _

theorem State.job?_putJob (j k : Nat) (jb : Job) : (s.putJob j jb).job? k = if k = j then some jb else s.job? k := Tbl.get?_put _ _ _ _

theorem State.piece?_modPiece (j p k q : Nat) (f : Piece → Piece) :
    (s.modPiece j p f).piece? k q = if k = j ∧ q = p then (s.piece? k q).map f else s.piece? k q := by
  unfold State.piece? State.modPiece
  rw [State.job?_modJob]
  by_cases hk : k = j <;> by_cases hq : q = p <;> cases hj : s.job? k <;> simp [hk, hq, Tbl.get?_modify]

/-! ### Rate sets -/

theorem State.rateSet_congr {s t : State} (h : t.job.rateSets = s.job.rateSets) (k : Nat) : t.rateSet k = s.rateSet k := by
  unfold State.rateSet; rw [h]

theorem State.rateSet_modRateSet (k j : Nat) (f : RateSet → RateSet) (hk : k < 4) :
    (s.modRateSet k f).rateSet j = if j = k then f (s.rateSet k) else s.rateSet j := by
  unfold State.rateSet State.modRateSet
  by_cases hj : j = k
  · subst hj; simp [hk, State.rateSet]
  · simp only [if_neg hj]; rw [Vector.getElem?_setIfInBounds, if_neg (Ne.symm hj)]

/-! ### Stations and heads -/

theorem State.station?_congr {s t : State} (h : t.dsp.stations = s.dsp.stations) (n : Nat) : t.station? n = s.station? n := by
  unfold State.station?; rw [h]

theorem State.head?_congr {s t : State} (h : t.dsp.stations = s.dsp.stations) (n : Nat) : t.head? n = s.head? n := by
  unfold State.head?; rw [State.station?_congr h]

theorem State.station?_modStation (n m : Nat) (f : Station → Station) :
    (s.modStation n f).station? m = if m = n then (s.station? m).map f else s.station? m := Tbl.get?_modify _ _ _ _

theorem State.head?_modStation_ne {n m : Nat} (f : Station → Station) (h : m ≠ n) : (s.modStation n f).head? m = s.head? m := by
  unfold State.head?; rw [State.station?_modStation, if_neg h]

theorem State.head?_modHead (n m : Nat) (f : Step → Step) : (s.modHead n f).head? m = if m = n then (s.head? m).map f else s.head? m := by
  unfold State.head? State.modHead
  rw [State.station?_modStation]
  by_cases h : m = n
  · subst h
    cases hs : s.station? m with
    | none => simp
    | some st => cases hq : st.queue <;> simp [hq]
  · simp [h]

/-- The numbers of the stations do not change with a station. -/
@[simp] theorem State.modStation_keys (n : Nat) (f : Station → Station) : (s.modStation n f).dsp.stations.keys = s.dsp.stations.keys :=
  Tbl.keys_modify _ _ _

/-! ### Points -/

theorem State.point_congr {s t : State} (h : t.ppt.points = s.ppt.points) (i : Nat) : t.point i = s.point i := by
  unfold State.point; rw [h]

theorem State.point_setPoint (i k : Nat) (p : Point) (hi : i < 32) : (s.setPoint i p).point k = if k = i then p else s.point k := by
  unfold State.point State.setPoint
  by_cases hk : k = i
  · subst hk; simp [hi]
  · simp only [if_neg hk]; rw [Vector.getElem?_setIfInBounds, if_neg (Ne.symm hk)]

theorem State.setPoint_ge (i : Nat) (p : Point) (hi : 32 ≤ i) : s.setPoint i p = s := by
  unfold State.setPoint
  have : s.ppt.points.setIfInBounds i p = s.ppt.points := by
    apply Vector.ext; intro k hk; rw [Vector.getElem_setIfInBounds]; rw [if_neg (by omega)]
  rw [this]

/-! ### Flags -/

theorem State.flag_congr {s t : State} (h : t.dsp.flags = s.dsp.flags) (k : Nat) : t.flag k = s.flag k := by
  unfold State.flag; rw [h]

theorem State.flag_storeFlag (j k : Nat) (v : Bool) (hj : 0 < j) (hk : j < 16) : (s.storeFlag j v).flag k = if k = j then v else s.flag k := by
  unfold State.flag State.storeFlag
  by_cases h : k = j
  · subst h; rw [if_neg (by omega), if_pos rfl]; simp [hk]
  · simp only [if_neg h]; rw [Vector.getElem?_setIfInBounds, if_neg (Ne.symm h)]

end Sys2Proof.Machine
end

