-- ==== Sys2Proof/Laws/Kept.lean ====
section
/-!
SUPPORT. What every operation inside the part leaves as it was: the plan settings, the zones, the clocks, the settings of the loop and of the line, the
receiver, the request list, the replies and the queue of commands. One lemma for each operation that a meaning calls.
-/
namespace Sys2Proof.Machine

/-! ### The relation -/

/-- The replies that wait, in their order. -/
def Lnk.replies (l : Lnk) : List OutFrame := l.out.filter (fun f => !f.isReport)

/-- What no operation inside the part changes. -/
structure Base where
  pln : Pln
  zones : Vector ZoneWindow 8
  defaultZone : DefaultZone
  clk : Clk
  pending : List Instr
  rx : List Byte
  requests : List ReqFrame
  restartPending : Bool
  replies : List OutFrame
  settings : LoopSettings
  pollInterval : Nat

/-- That part of a state. -/
def State.base (s : State) : Base :=
  { pln := s.pln, zones := s.stk.zones, defaultZone := s.stk.defaultZone, clk := s.clk, pending := s.pending, rx := s.lnk.rx,
    requests := s.lnk.requests, restartPending := s.lnk.restartPending, replies := s.lnk.replies, settings := s.wlc.settings,
    pollInterval := s.slc.pollInterval }

/-- State t keeps that part of state s. -/
def State.Kept (s t : State) : Prop := t.base = s.base

theorem State.Kept.pln {s t : State} (h : s.Kept t) : t.pln = s.pln := congrArg Base.pln h
theorem State.Kept.zones {s t : State} (h : s.Kept t) : t.stk.zones = s.stk.zones := congrArg Base.zones h
theorem State.Kept.defaultZone {s t : State} (h : s.Kept t) : t.stk.defaultZone = s.stk.defaultZone := congrArg Base.defaultZone h
theorem State.Kept.clk {s t : State} (h : s.Kept t) : t.clk = s.clk := congrArg Base.clk h
theorem State.Kept.pending {s t : State} (h : s.Kept t) : t.pending = s.pending := congrArg Base.pending h
theorem State.Kept.rx {s t : State} (h : s.Kept t) : t.lnk.rx = s.lnk.rx := congrArg Base.rx h
theorem State.Kept.requests {s t : State} (h : s.Kept t) : t.lnk.requests = s.lnk.requests := congrArg Base.requests h
theorem State.Kept.restartPending {s t : State} (h : s.Kept t) : t.lnk.restartPending = s.lnk.restartPending := congrArg Base.restartPending h
theorem State.Kept.replies {s t : State} (h : s.Kept t) : t.lnk.replies = s.lnk.replies := congrArg Base.replies h
theorem State.Kept.settings {s t : State} (h : s.Kept t) : t.wlc.settings = s.wlc.settings := congrArg Base.settings h
theorem State.Kept.pollInterval {s t : State} (h : s.Kept t) : t.slc.pollInterval = s.slc.pollInterval := congrArg Base.pollInterval h

theorem State.Kept.refl (s : State) : s.Kept s := rfl

theorem State.Kept.trans {s t u : State} (h : s.Kept t) (k : t.Kept u) : s.Kept u := Eq.trans k h

/-- The same, the last operation first. -/
theorem State.Kept.after {s t u : State} (k : t.Kept u) (h : s.Kept t) : s.Kept u := Eq.trans k h

theorem State.Kept.ite {s t u : State} {c : Prop} [Decidable c] (h : s.Kept t) (k : s.Kept u) : s.Kept (if c then t else u) := by
  split
  · exact h
  · exact k

theorem State.Kept.foldl {α : Type} {f : State → α → State} (hf : ∀ (s : State) a, s.Kept (f s a)) (l : List α) (s : State) : s.Kept (l.foldl f s) := by
  induction l generalizing s with
  | nil => exact .refl s
  | cons a l ih => exact (hf s a).trans (ih _)

variable (s : State)

/-- An event keeps it where what happens in it does. -/
theorem State.event_kept {act : State → State} (h : ∀ u : State, u.Kept (act u)) : s.Kept (s.event act) := h s.beginEvent

/-! ### Records, reports, accounts -/

theorem State.report_kept (r : Report) : s.Kept (s.report r) := by
  unfold State.report
  split
  · simp [State.Kept, State.base, Lnk.replies, OutFrame.isReport]
  · exact rfl

theorem State.modSlab_kept (id : Nat) (f : Slab → Slab) : s.Kept (s.modSlab id f) := rfl
theorem State.putSlab_kept (id : Nat) (sl : Slab) : s.Kept (s.putSlab id sl) := rfl
theorem State.delSlab_kept (id : Nat) : s.Kept (s.delSlab id) := rfl
theorem State.modJob_kept (j : Nat) (f : Job → Job) : s.Kept (s.modJob j f) := rfl
theorem State.putJob_kept (j : Nat) (jb : Job) : s.Kept (s.putJob j jb) := rfl
theorem State.modPiece_kept (j p : Nat) (f : Piece → Piece) : s.Kept (s.modPiece j p f) := rfl
theorem State.modStation_kept (n : Nat) (f : Station → Station) : s.Kept (s.modStation n f) := rfl
theorem State.modHead_kept (n : Nat) (f : Step → Step) : s.Kept (s.modHead n f) := rfl
theorem State.setReason_kept (n : Nat) (r : HoldReason) : s.Kept (s.setReason n r) := rfl
theorem State.modRateSet_kept (k : Nat) (f : RateSet → RateSet) : s.Kept (s.modRateSet k f) := rfl
theorem State.modPlacement_kept (j p : Nat) (f : Placement → Placement) : s.Kept (s.modPlacement j p f) := rfl
theorem State.movePlacement_kept (j p : Nat) (st : PlacementState) : s.Kept (s.movePlacement j p st) := rfl
theorem State.addOverhead_kept (a : Nat) : s.Kept (s.addOverhead a) := rfl
theorem State.setPoint_kept (i : Nat) (p : Point) : s.Kept (s.setPoint i p) := rfl
theorem State.handFrame_kept (f : PartFrame) : s.Kept (s.handFrame f) := rfl
theorem State.dropFrames_kept (out : PartFrame → Bool) : s.Kept (s.dropFrames out) := rfl
theorem State.clearHaltOwed_kept (n : Nat) : s.Kept (s.clearHaltOwed n) := rfl
theorem State.clearFlowOwed_kept (n : Nat) : s.Kept (s.clearFlowOwed n) := rfl
theorem State.storeFlag_kept (k : Nat) (v : Bool) : s.Kept (s.storeFlag k v) := rfl
theorem State.joinWaitList_kept (n f : Nat) : s.Kept (s.joinWaitList n f) := rfl
theorem State.closeOwn_kept : s.Kept s.closeOwn := rfl
theorem State.cutOwn_kept : s.Kept s.cutOwn := rfl
theorem State.hearOther_kept (header : Option Byte) : s.Kept (s.hearOther header) := rfl
theorem State.findData_kept (k : Option (Fin 10)) : s.Kept (s.findData k) := rfl
theorem State.sendClear_kept : s.Kept s.sendClear := rfl
theorem State.beginEvent_kept : s.Kept s.beginEvent := rfl
theorem State.endEvent_kept (before : State) : s.Kept (State.endEvent before s) := rfl
theorem State.clearFailures_kept (n : Nat) : s.Kept (s.clearFailures n) := rfl
theorem State.accrualBoundary_kept (n rate : Nat) : s.Kept (s.accrualBoundary n rate) := rfl
theorem State.beginRound_kept : s.Kept s.beginRound := rfl
theorem State.makeupPulse_kept : s.Kept s.makeupPulse := rfl
theorem State.oweHalt_kept (n tok : Nat) (foreign : Bool) : s.Kept (s.oweHalt n tok foreign) := rfl

theorem State.reportStation_kept (n : Nat) : s.Kept (s.reportStation n) := by
  unfold State.reportStation
  split
  · exact rfl
  · exact s.report_kept _

theorem State.setCondition_kept (n : Nat) (c : Condition) : s.Kept (s.setCondition n c) := by
  unfold State.setCondition
  split
  · exact rfl
  · exact .ite rfl ((s.modStation_kept n _).trans (State.reportStation_kept _ n))

theorem State.addCarried_kept (id a : Nat) : s.Kept (s.addCarried id a) := by
  unfold State.addCarried
  split
  · exact rfl
  · exact rfl

theorem State.writeFlag_kept (k : Nat) (v : Bool) : s.Kept (s.writeFlag k v) := .ite rfl rfl

theorem State.noteInexact_kept (k : Nat) (b : Bool) : s.Kept (s.noteInexact k b) := .ite rfl rfl

theorem State.noteSaturated_kept (k : Nat) (what : Overflowed) : s.Kept (s.noteSaturated k what) :=
  .ite rfl ((s.modRateSet_kept k _).trans (State.report_kept _ _))

theorem State.postJob_kept (j : Nat) (a : Accumulator) (amount : Nat) : s.Kept (s.postJob j a amount).1 := by
  unfold State.postJob
  split
  · exact rfl
  · dsimp only
    split
    · exact rfl
    · exact State.Kept.after (State.noteSaturated_kept _ _ _) rfl

theorem State.testEstimate_kept (j : Nat) : s.Kept (s.testEstimate j) := by
  unfold State.testEstimate
  split
  · exact rfl
  · split
    · exact rfl
    · exact .ite ((s.modJob_kept j _).trans (State.report_kept _ _)) rfl

theorem State.chargeJob_kept (j : Nat) (cls : StationClass) (sec c len : Nat) : s.Kept (s.chargeJob j cls sec c len).1 := by
  unfold State.chargeJob
  split
  · exact rfl
  · exact ((((s.noteInexact_kept _ _).trans (State.postJob_kept _ _ _ _)).trans (State.postJob_kept _ _ _ _)).trans
      (State.postJob_kept _ _ _ _)).trans (State.testEstimate_kept _ _)

theorem State.chargeSlab_kept (id : Nat) (cls : StationClass) (sec c len : Nat) : s.Kept (s.chargeSlab id cls sec c len).1 := by
  unfold State.chargeSlab
  dsimp only
  split
  · exact s.noteInexact_kept _ _
  · split
    · exact .after (State.addCarried_kept _ _ _) (s.noteInexact_kept _ _)
    · exact .after (State.noteSaturated_kept _ _ _) (.after (State.addCarried_kept _ _ _) (s.noteInexact_kept _ _))

theorem State.closeAccrual_kept (n : Nat) : s.Kept (s.closeAccrual n) := by
  unfold State.closeAccrual
  split
  · exact rfl
  · exact rfl

theorem State.closeSettled_kept (j : Nat) : s.Kept (s.closeSettled j) := by
  unfold State.closeSettled
  split
  · exact rfl
  · exact .ite ((s.modJob_kept j _).trans (State.report_kept _ _)) rfl

theorem postShares_kept (areas shares : Tbl Nat) (s : State) : s.Kept (postShares areas shares s).1 := by
  induction shares generalizing s with
  | nil => exact rfl
  | cons e t ih => exact ((s.postJob_kept _ _ _).trans (State.testEstimate_kept _ _)).trans (ih _)

theorem State.settle_kept (id : Nat) (sl : Slab) (area remnantId : Nat) : s.Kept (s.settle id sl area remnantId).1 := by
  unfold State.settle
  refine State.Kept.trans ?_ (State.Kept.foldl (fun s r => s.report_kept r) _ _)
  split
  · exact rfl
  · exact postShares_kept _ _ s

/-! ### Points and grants -/

theorem State.refreshPoint_kept (i : Nat) : s.Kept (s.refreshPoint i) := by
  unfold State.refreshPoint
  dsimp only
  split
  · exact rfl
  · exact .ite ((s.setPoint_kept i _).trans (State.report_kept _ _)) (s.setPoint_kept i _)

theorem State.refreshOutputs_kept : s.Kept s.refreshOutputs := State.Kept.foldl (fun s i => s.refreshPoint_kept i) _ s

theorem State.makeGrant_kept (n f : Nat) : s.Kept (s.makeGrant n f) := by
  unfold State.makeGrant
  refine .after (State.modHead_kept _ n _) (.after (State.handFrame_kept _ _) ?_)
  refine State.Kept.trans (t := State.refreshPoint 8 (State.refreshPoint (n - 1) _)) ?_ rfl
  exact .after (State.refreshPoint_kept _ 8) (.after (State.refreshPoint_kept _ (n - 1)) rfl)

theorem State.dropGrant_kept (n : Nat) : s.Kept (s.dropGrant n) := by
  unfold State.dropGrant
  refine .after (State.refreshPoint_kept _ 8) (.after (State.clearFlowOwed_kept _ n) (.after (State.dropFrames_kept _ _) ?_))
  refine .after (State.modHead_kept _ n _) (.after (State.closeAccrual_kept _ n) (.after (State.refreshPoint_kept _ (n - 1)) ?_))
  exact rfl

/-! ### Steps and their examination -/

theorem State.setToken_kept (h : Step) (tok : Option Nat) : s.Kept (s.setToken h tok) := by
  unfold State.setToken
  split <;> exact rfl

theorem State.offer_kept (n : Nat) : s.Kept (s.offer n) := by
  unfold State.offer
  split
  · exact rfl
  · split
    · exact rfl
    · exact State.Kept.after (State.Kept.trans (State.setToken_kept _ _ _) rfl) rfl

theorem State.leaveQueue_kept (n k : Nat) : s.Kept (s.leaveQueue n k) := rfl

theorem State.unissue_kept (h : Step) : s.Kept (s.unissue h) := by
  unfold State.unissue
  split
  · exact (s.setToken_kept _ _).trans rfl
  · exact rfl

theorem State.strictSkip_kept (h : Step) (o : StepOutcome) : s.Kept (s.strictSkip h o) := by
  unfold State.strictSkip
  split
  · exact .ite ((s.writeFlag_kept _ _).trans (State.writeFlag_kept _ _ _)) rfl
  · exact rfl

theorem State.retireUncharged_kept (n : Nat) (h : Step) (o : StepOutcome) : s.Kept (s.retireUncharged n h o) :=
  (((s.unissue_kept h).trans (State.strictSkip_kept _ h o)).trans (State.report_kept _ _)).trans (State.leaveQueue_kept _ _ _)

theorem State.stopToolLow_kept (n : Nat) (st : Station) : s.Kept (s.stopToolLow n st) :=
  .ite (s.modStation_kept n _) ((s.modStation_kept n _).trans (State.reportStation_kept _ n))

theorem State.seekWater_kept (n : Nat) (st : Station) (h : Step) : s.Kept (s.seekWater n st h) := by
  unfold State.seekWater
  split
  · exact s.offer_kept n
  · dsimp only
    split
    · exact (s.makeGrant_kept n _).trans (State.offer_kept _ n)
    · exact rfl
    · exact rfl

theorem State.examineHead_kept (fuel n : Nat) (s : State) : s.Kept (s.examineHead fuel n) := by
  induction fuel generalizing s with
  | zero => exact rfl
  | succ fuel ih =>
    unfold State.examineHead
    split
    · exact rfl
    · split
      · exact rfl
      · refine .ite rfl (.ite rfl ?_)
        split
        · exact (s.retireUncharged_kept n _ _).trans (ih _)
        · exact rfl
        · exact s.stopToolLow_kept n _
        · exact s.seekWater_kept n _ _

theorem State.occasion_kept (n : Nat) : s.Kept (s.occasion n) := State.examineHead_kept _ n s

theorem State.occasionAll_kept : s.Kept s.occasionAll := State.Kept.foldl (fun s n => s.occasion_kept n) _ s

/-! ### The wait list -/

theorem State.returnHead_kept (n : Nat) (why : HoldReason) : s.Kept (s.returnHead n why) := by
  unfold State.returnHead
  split
  · exact rfl
  · exact .ite rfl rfl

theorem State.grantArrives_kept (n : Nat) : s.Kept (s.grantArrives n) := by
  unfold State.grantArrives
  split
  · exact s.dropGrant_kept n
  · exact .ite (s.offer_kept n) ((s.dropGrant_kept n).trans (State.returnHead_kept _ _ _))

theorem State.serveLoop_kept (fuel : Nat) (s : State) : s.Kept (s.serveLoop fuel) := by
  induction fuel generalizing s with
  | zero => exact rfl
  | succ fuel ih =>
    unfold State.serveLoop
    split
    · exact rfl
    · refine .ite ?_ rfl
      exact .after (ih _) (.after (State.grantArrives_kept _ _) (.after (State.makeGrant_kept _ _ _) rfl))

theorem State.serve_kept : s.Kept s.serve := State.serveLoop_kept _ s

theorem State.removeEntry_kept (n : Nat) : s.Kept (s.removeEntry n) :=
  .ite (State.Kept.after (State.serve_kept _) rfl) rfl

theorem State.withdrawHead_kept (n : Nat) (why : HoldReason) : s.Kept (s.withdrawHead n why) :=
  .ite ((s.returnHead_kept n why).trans (State.removeEntry_kept _ n)) rfl

theorem State.refuseWaiting_kept : s.Kept s.refuseWaiting :=
  State.Kept.trans (State.Kept.foldl (fun s (e : WaitEntry) => s.returnHead_kept e.slot .loopNotReady) s.wlc.waitList s) rfl

/-! ### The loop's moves -/

theorem State.changeLoop_kept (new : LoopState) (f : Wlc → Wlc) (hf : (f s.wlc).settings = s.wlc.settings) : s.Kept (s.changeLoop new f) := by
  unfold State.changeLoop
  refine State.Kept.trans (State.Kept.trans ?_ (State.refreshOutputs_kept _)) (State.report_kept _ _)
  simp [State.Kept, State.base, hf]

theorem State.dueTest_kept : s.Kept s.dueTest := .ite rfl rfl

theorem State.dueAct_kept : s.Kept s.dueAct := by
  unfold State.dueAct
  refine .ite rfl ?_
  split
  · exact .ite (s.changeLoop_kept _ _ rfl) (s.changeLoop_kept _ _ rfl)
  · exact .ite (State.Kept.after (State.refreshOutputs_kept _) rfl) rfl
  · exact rfl

theorem State.dueEvent_kept : s.Kept s.dueEvent := .ite s.dueAct_kept (s.dueAct_kept.trans (State.occasionAll_kept _))

theorem State.enterRunning_kept (f : Wlc → Wlc) (hf : (f s.wlc).settings = s.wlc.settings) : s.Kept (s.enterRunning f) :=
  ((((s.changeLoop_kept _ f hf).trans (State.dueTest_kept _)).trans (State.dueAct_kept _)).trans (State.serve_kept _)).trans
    (State.occasionAll_kept _)

theorem State.enterManual_kept : s.Kept s.enterManual := (s.changeLoop_kept _ _ rfl).trans (State.dueAct_kept _)

theorem State.handoverDrained_kept : s.Kept s.handoverDrained := .ite (s.changeLoop_kept _ _ rfl) s.enterManual_kept

theorem State.afterRelease_kept : s.Kept s.afterRelease := by
  unfold State.afterRelease
  split
  · exact s.serve_kept
  · exact .ite ((s.changeLoop_kept _ _ rfl).trans (State.occasionAll_kept _)) rfl
  · exact .ite ((s.changeLoop_kept _ _ rfl).trans (State.occasionAll_kept _)) rfl
  · exact .ite (s.handoverDrained_kept.trans (State.occasionAll_kept _)) rfl
  · exact rfl

theorem State.release_kept (n : Nat) : s.Kept (s.release n) := .ite ((s.dropGrant_kept n).trans (State.afterRelease_kept _)) rfl

theorem State.endPriming_kept : s.Kept s.endPriming := s.enterRunning_kept _ rfl

theorem State.finishPurge_kept : s.Kept s.finishPurge := by
  unfold State.finishPurge
  split
  · exact (s.changeLoop_kept _ _ rfl).trans (State.occasionAll_kept _)
  · exact .after (State.occasionAll_kept _) (.after (State.enterManual_kept _) rfl)
  · exact s.enterRunning_kept _ rfl
  · exact s.enterRunning_kept _ rfl
  · exact (s.changeLoop_kept _ _ rfl).trans (State.occasionAll_kept _)
  · exact s.enterRunning_kept _ rfl
  · exact State.Kept.after (State.refreshOutputs_kept _) rfl

theorem State.setRates_kept (rate : Nat → Nat) : s.Kept (s.setRates rate) := by
  unfold State.setRates
  apply State.Kept.foldl
  intro s e
  exact .after (State.handFrame_kept _ _) (.after (State.accrualBoundary_kept _ _ _) rfl)

theorem State.reportLevel_kept : s.Kept s.reportLevel := s.report_kept _

theorem State.throttleDecision_kept : s.Kept s.throttleDecision := by
  unfold State.throttleDecision
  refine .ite rfl (.ite ?_ (.ite ?_ rfl))
  · exact .after (State.reportLevel_kept _) (.after (State.setRates_kept _ _) rfl)
  · exact .after (State.serve_kept _) (.after (State.reportLevel_kept _) (.after (State.setRates_kept _ _) rfl))

theorem State.makeupDecision_kept : s.Kept s.makeupDecision := by
  unfold State.makeupDecision
  refine .ite rfl (.ite ?_ (.ite ?_ rfl))
  · exact State.Kept.after (State.refreshPoint_kept _ 10) rfl
  · exact State.Kept.after (State.refreshPoint_kept _ 10) rfl

/-! ### Steps that end, stations that are lost, the plant stop -/

theorem State.chargeStep_kept (n : Nat) (st : Station) (h : Step) (e : Ending) : s.Kept (s.chargeStep n st h e).1 := by
  unfold State.chargeStep
  dsimp only
  split
  · exact s.chargeJob_kept _ _ _ _ _
  · exact s.chargeSlab_kept _ _ _ _ _

theorem State.setTargets_kept (h : Step) (thickness : Nat) : s.Kept (s.setTargets h thickness) := by
  unfold State.setTargets
  split
  · exact (s.writeFlag_kept _ _).trans (State.writeFlag_kept _ _ _)
  · exact rfl

theorem State.markEnded_kept (n : Nat) (h : Step) (e : Ending) (len : Nat) : s.Kept (s.markEnded n h e len) := by
  unfold State.markEnded
  dsimp only
  refine State.Kept.trans (?_ : s.Kept (match h.kind with
    | .cut j p => (s.setToken h none).movePlacement j p e.placement
    | _ => s)) ?_
  · split
    · exact (s.setToken_kept _ _).trans rfl
    · exact rfl
  · exact .ite (State.Kept.after (State.setTargets_kept _ _ _) rfl) rfl

theorem State.retireOut_kept (n : Nat) (e : Ending) : s.Kept (s.retireOut n e).1 := by
  unfold State.retireOut
  dsimp only
  refine (s.release_kept n).trans ?_
  split
  · exact rfl
  · split
    · exact rfl
    · exact (((State.chargeStep_kept _ n _ _ e).trans (State.markEnded_kept _ n _ e _)).trans (State.report_kept _ _)).trans rfl

theorem State.retire_kept (n : Nat) (e : Ending) (c : Condition) : s.Kept (s.retire n e c) := by
  unfold State.retire
  dsimp only
  refine (s.retireOut_kept n e).trans ((State.setCondition_kept _ n c).trans ((State.occasion_kept _ n).trans ?_))
  exact .ite (State.occasionAll_kept _) rfl

theorem State.offerReturned_kept (n : Nat) : s.Kept (s.offerReturned n) := by
  unfold State.offerReturned
  split
  · exact rfl
  · exact .ite (State.Kept.trans ((s.release_kept n).trans (State.setToken_kept _ _ _)) rfl) rfl

theorem State.haltHead_kept (n : Nat) : s.Kept (s.haltHead n) := by
  unfold State.haltHead
  split <;> exact rfl

theorem State.doubtHead_kept (n : Nat) : s.Kept (s.doubtHead n) := by
  unfold State.doubtHead
  split
  · exact rfl
  · exact .ite ((s.release_kept n).trans rfl) rfl

theorem State.becomeUnreachable_kept (n : Nat) : s.Kept (s.becomeUnreachable n) := by
  unfold State.becomeUnreachable
  dsimp only
  refine .after (State.occasion_kept _ n) (.after (State.withdrawHead_kept _ n .line) ?_)
  refine State.Kept.trans (t := (((s.setCondition n .unreachable).doubtHead n).dropFrames (fun f => f.isFlowTo n || f.isHaltTo n)).clearHaltOwed n |>.clearFlowOwed n) ?_ ?_
  · exact .after (State.clearFlowOwed_kept _ n) (.after (State.clearHaltOwed_kept _ n) (.after (State.dropFrames_kept _ _)
      (.after (State.doubtHead_kept _ n) (s.setCondition_kept n .unreachable))))
  · exact .ite (.after (State.offerReturned_kept _ n) (State.dropFrames_kept _ _)) (.refl _)

theorem State.countFailure_kept (n : Nat) : s.Kept (s.countFailure n) := by
  unfold State.countFailure
  split
  · exact rfl
  · exact .ite rfl (.ite (State.Kept.after (State.becomeUnreachable_kept _ n) rfl) rfl)

theorem State.clearForeignHalt_kept (n : Nat) : s.Kept (s.clearForeignHalt n) := .ite rfl rfl

theorem State.changeCondition_kept (n : Nat) (c : Condition) : s.Kept (s.changeCondition n c) :=
  (s.setCondition_kept n c).trans (State.occasion_kept _ n)

theorem State.reportIdle_kept (n tok : Nat) (r : LineReport) (st : Station) : s.Kept (s.reportIdle n tok r st) := by
  unfold State.reportIdle
  split
  · split
    · exact s.changeCondition_kept _ _
    · exact State.Kept.trans ((s.setCondition_kept _ _).trans (State.handFrame_kept _ _)) (State.occasion_kept _ _)
    · exact s.changeCondition_kept _ _
  · split
    · exact s.changeCondition_kept _ _
    · exact State.Kept.trans ((s.setCondition_kept _ _).trans (State.handFrame_kept _ _)) (State.occasion_kept _ _)
    · exact s.changeCondition_kept _ _
  · split
    · exact ((s.setCondition_kept _ _).trans (State.withdrawHead_kept _ _ _)).trans (State.occasion_kept _ _)
    · exact rfl
  · exact rfl

theorem State.reportOffered_kept (n : Nat) (r : LineReport) : s.Kept (s.reportOffered n r) :=
  .ite (.after (State.changeCondition_kept _ _ _) (.after (State.offerReturned_kept _ n) (State.dropFrames_kept _ _))) rfl

theorem State.reportInProgress_kept (n tok : Nat) (r : LineReport) (h : Step) : s.Kept (s.reportInProgress n tok r h) := by
  unfold State.reportInProgress
  split
  · exact .ite (s.retire_kept _ _ _) rfl
  · exact .ite (s.retire_kept _ _ _) rfl
  · exact .ite (s.retire_kept _ _ _) (.ite (s.retire_kept _ _ _) rfl)
  · exact rfl

theorem State.reportHalting_kept (n tok : Nat) (r : LineReport) (h : Step) : s.Kept (s.reportHalting n tok r h) := by
  unfold State.reportHalting
  split
  · exact .ite (s.retire_kept _ _ _) rfl
  · exact .ite (s.retire_kept _ _ _) rfl
  · exact .ite (s.retire_kept _ _ _) rfl
  · exact rfl

theorem State.reportInDoubt_kept (n tok : Nat) (r : LineReport) (h : Step) : s.Kept (s.reportInDoubt n tok r h) := by
  unfold State.reportInDoubt
  split
  · exact .ite (s.retire_kept _ _ _) (s.retire_kept _ _ _)
  · exact .ite (s.retire_kept _ _ _) (s.retire_kept _ _ _)
  · exact .ite ((s.haltHead_kept n).trans (State.changeCondition_kept _ _ _)) (s.retire_kept _ _ _)
  · exact .ite (s.retire_kept _ _ _) (s.retire_kept _ _ _)

theorem State.stationReport_kept (n tok : Nat) (r : LineReport) : s.Kept (s.stationReport n tok r) := by
  unfold State.stationReport
  extract_lets u
  refine State.Kept.trans (t := u) (.ite rfl (s.clearForeignHalt_kept n)) ?_
  clear_value u
  split
  · exact rfl
  · split
    · exact State.reportIdle_kept _ _ _ _ _
    · split
      · exact State.reportIdle_kept _ _ _ _ _
      · exact State.reportIdle_kept _ _ _ _ _
      · exact State.reportOffered_kept _ _ _
      · exact State.reportInProgress_kept _ _ _ _ _
      · exact State.reportHalting_kept _ _ _ _ _
      · exact State.reportInDoubt_kept _ _ _ _ _

theorem State.stopHead_kept (n : Nat) : s.Kept (s.stopHead n) := by
  unfold State.stopHead
  split
  · exact rfl
  · exact .ite (s.haltHead_kept n) (.ite rfl rfl)

theorem State.stopPlant_kept : s.Kept s.stopPlant := by
  unfold State.stopPlant
  refine State.Kept.trans ?_ (State.occasionAll_kept _)
  refine State.Kept.trans ?_ (State.report_kept _ _)
  refine State.Kept.trans ?_ (State.Kept.foldl (fun s n => s.stopHead_kept n) _ _)
  refine State.Kept.trans ?_ (State.report_kept _ _)
  refine State.Kept.trans ?_ (State.refreshOutputs_kept _)
  refine State.Kept.trans (State.Kept.trans ?_ (State.refuseWaiting_kept _)) rfl
  exact State.Kept.after (State.Kept.foldl (fun s n => s.dropGrant_kept n) _ _) rfl

theorem State.plantStop_kept : s.Kept s.plantStop := .ite rfl s.stopPlant_kept

/-! ### The station line -/

theorem State.nextRound_kept : s.Kept s.nextRound := .ite rfl rfl

theorem State.endExchange_kept (n : Nat) : s.Kept (s.endExchange n) :=
  .after (State.nextRound_kept _) (.after (State.occasion_kept _ n) rfl)

theorem State.pollEnded_kept (n : Nat) (e : FrameEnd) : s.Kept (s.pollEnded n e) := by
  unfold State.pollEnded
  split
  · exact rfl
  · exact s.endExchange_kept n
  · exact (s.countFailure_kept n).trans (State.endExchange_kept _ n)

theorem State.offerTaken_kept (n : Nat) : s.Kept (s.offerTaken n) := by
  unfold State.offerTaken
  split
  · exact rfl
  · refine .ite (State.Kept.trans (t := (s.modHead n (fun h => { h with state := .inProgress })).setCondition n .working) ?_ ?_) rfl
    · exact .after (State.setCondition_kept _ n .working) (s.modHead_kept n _)
    · exact .ite (State.haltHead_kept _ n) (.refl _)

theorem State.offerEnded_kept (n : Nat) (e : FrameEnd) : s.Kept (s.offerEnded n e) := by
  unfold State.offerEnded
  split
  · exact (s.clearFailures_kept n).trans (State.offerTaken_kept _ n)
  · exact s.offerReturned_kept n
  · exact (s.offerReturned_kept n).trans (State.countFailure_kept _ n)

theorem State.oweFlow_kept (n : Nat) : s.Kept (s.oweFlow n) := .ite rfl rfl

theorem State.flowEnded_kept (n : Nat) (e : FrameEnd) : s.Kept (s.flowEnded n e) := by
  unfold State.flowEnded
  split
  · exact rfl
  · exact s.oweFlow_kept n
  · exact (s.oweFlow_kept n).trans (State.countFailure_kept _ n)

theorem State.haltEnded_kept (n tok : Nat) (foreign : Bool) (e : FrameEnd) : s.Kept (s.haltEnded n tok foreign e) := by
  unfold State.haltEnded
  split
  · exact rfl
  · exact rfl
  · exact State.Kept.after (State.countFailure_kept _ n) rfl

theorem State.ownEnded_kept (f : PartFrame) (e : FrameEnd) : s.Kept (s.ownEnded f e) := by
  unfold State.ownEnded
  split
  · exact s.pollEnded_kept _ e
  · exact s.offerEnded_kept _ e
  · exact s.flowEnded_kept _ e
  · exact s.haltEnded_kept _ _ _ e

theorem State.takeReport_kept (n : Nat) (tok : Byte) (r : LineReport) : s.Kept (s.takeReport n tok r) :=
  (s.clearFailures_kept n).trans (State.stationReport_kept _ n _ r)

theorem State.frameRefused_kept (n : Nat) : s.Kept (s.frameRefused n) := .ite (s.endExchange_kept n) rfl

theorem State.frameAccepted_kept (n : Nat) (tok : Byte) (r : LineReport) : s.Kept (s.frameAccepted n tok r) :=
  .ite ((s.takeReport_kept _ _ _).trans (State.endExchange_kept _ n)) (s.takeReport_kept _ _ _)

theorem State.frameLost_kept (n : Nat) : s.Kept (s.frameLost n) :=
  .ite ((s.countFailure_kept n).trans (State.endExchange_kept _ n)) (s.countFailure_kept n)

theorem State.frameJudged_kept (n : Nat) (f : StationFrame) : s.Kept (s.frameJudged n f) := by
  unfold State.frameJudged
  split
  · exact s.frameAccepted_kept n _ _
  · exact s.frameRefused_kept n

theorem State.frameClosed_kept (f : StationFrame) : s.Kept (s.frameClosed f) := by
  unfold State.frameClosed
  refine .ite rfl ?_
  extract_lets t
  have ht : s.Kept t := rfl
  split
  · exact ht
  · split
    · exact ht.trans (State.frameJudged_kept t _ f)
    · exact ht.trans (State.frameLost_kept t _)
    · exact ht.trans (State.frameRefused_kept t _)
    · exact ht

theorem State.stationFrameFailed_kept (header : Option Byte) : s.Kept (s.stationFrameFailed header) := by
  unfold State.stationFrameFailed
  split
  · exact rfl
  · dsimp only
    split
    · exact rfl
    · exact .ite rfl (State.Kept.after (State.frameLost_kept _ _) rfl)

theorem State.frameFailed_kept (header : Option Byte) : s.Kept (s.frameFailed header) := by
  unfold State.frameFailed
  split
  · exact s.cutOwn_kept.trans (State.ownEnded_kept _ _ _)
  · exact State.Kept.after (State.stationFrameFailed_kept _ _) rfl

theorem State.failRound_kept : s.Kept s.failRound :=
  State.Kept.foldl (fun s n => (s.countFailure_kept n).trans (State.occasion_kept _ n)) _ s

theorem State.pollTimer_kept : s.Kept s.pollTimer := by
  unfold State.pollTimer
  dsimp only
  refine .ite ?_ (.ite rfl rfl)
  have h : s.Kept (State.sendClear { s with slc := { s.slc with timerPeriod := s.slc.pollInterval } }) := rfl
  exact (h.trans (State.failRound_kept _)).trans rfl

theorem State.forgetStation_kept (n : Nat) : s.Kept (s.forgetStation n) := State.Kept.after (State.nextRound_kept _) rfl

/-! ### Inputs -/

theorem State.setSumpHigh_kept (v : Bool) : s.Kept (s.setSumpHigh v) := by
  unfold State.setSumpHigh
  exact .ite rfl (.ite rfl (State.Kept.after (State.serve_kept _) rfl))

theorem State.turbidity_kept : s.Kept s.turbidity := by
  unfold State.turbidity
  exact .ite (State.Kept.after (State.dueEvent_kept _) rfl) rfl

theorem State.handInput_kept (i : Nat) (level : Bool) : s.Kept (s.handInput i level) := by
  unfold State.handInput
  refine .ite (.ite s.makeupPulse_kept rfl) (.ite (.ite s.turbidity_kept rfl) (.ite (s.setSumpHigh_kept level) (.ite ?_ ?_)))
  · exact .ite s.plantStop_kept rfl
  · exact .ite (s.storeFlag_kept _ _) rfl

theorem State.followPoint_kept (i : Nat) : s.Kept (s.followPoint i) := by
  unfold State.followPoint
  exact .ite ((s.refreshPoint_kept i).trans (State.handInput_kept _ _ _)) (s.refreshPoint_kept i)

end Sys2Proof.Machine
end

