-- ==== Sys2Proof/Laws/Specs.lean ====
section
/-!
SUPPORT. One lemma for each shared operation that says once everything it can do: placing a report, changing a condition, the saturating addition,
bringing a point to its level, handing a frame to the line, making and dropping a grant.
-/
namespace Sys2Proof.Machine

variable (s : State)

/-! ### Reports and replies -/

/-- A report joins the tail of the queue, or it is dropped and counted (R178). -/
theorem State.report_spec (r : Report) :
    (s.lnk.reportCount < 32 ∧ s.report r = { s with lnk := { s.lnk with out := s.lnk.out ++ [.report s.clk.shop r] } }) ∨
    (32 ≤ s.lnk.reportCount ∧ s.report r = { s with lnk := { s.lnk with
        dropped := min (s.lnk.dropped + 1) 65535, firstDrop := if s.lnk.dropped = 0 then s.clk.shop else s.lnk.firstDrop } }) := by
  by_cases h : s.lnk.reportCount < 32
  · exact .inl ⟨h, if_pos h⟩
  · exact .inr ⟨Nat.le_of_not_lt h, if_neg h⟩

/-- A report changes the link and nothing else. -/
theorem State.report_eq (r : Report) : ∃ l : Lnk, s.report r = { s with lnk := l } := by
  rcases s.report_spec r with ⟨_, h⟩ | ⟨_, h⟩ <;> exact ⟨_, h⟩

theorem State.report_stk (r : Report) : (s.report r).stk = s.stk := by obtain ⟨_, h⟩ := s.report_eq r; rw [h]
theorem State.report_job (r : Report) : (s.report r).job = s.job := by obtain ⟨_, h⟩ := s.report_eq r; rw [h]
theorem State.report_cst (r : Report) : (s.report r).cst = s.cst := by obtain ⟨_, h⟩ := s.report_eq r; rw [h]
theorem State.report_dsp (r : Report) : (s.report r).dsp = s.dsp := by obtain ⟨_, h⟩ := s.report_eq r; rw [h]
theorem State.report_slc (r : Report) : (s.report r).slc = s.slc := by obtain ⟨_, h⟩ := s.report_eq r; rw [h]
theorem State.report_wlc (r : Report) : (s.report r).wlc = s.wlc := by obtain ⟨_, h⟩ := s.report_eq r; rw [h]
theorem State.report_ppt (r : Report) : (s.report r).ppt = s.ppt := by obtain ⟨_, h⟩ := s.report_eq r; rw [h]
theorem State.report_clk (r : Report) : (s.report r).clk = s.clk := by obtain ⟨_, h⟩ := s.report_eq r; rw [h]
theorem State.report_pln (r : Report) : (s.report r).pln = s.pln := by obtain ⟨_, h⟩ := s.report_eq r; rw [h]

/-- The report queue grows by one, up to its cap. -/
theorem State.report_reportCount (r : Report) :
    (s.report r).lnk.reportCount = if s.lnk.reportCount < 32 then s.lnk.reportCount + 1 else s.lnk.reportCount := by
  rcases s.report_spec r with ⟨h, e⟩ | ⟨h, e⟩
  · rw [e, if_pos h]; simp only [Lnk.reportCount, List.filter_append, List.length_append]; rfl
  · rw [e, if_neg (Nat.not_lt.mpr h)]; rfl

theorem State.report_replyCount (r : Report) : (s.report r).lnk.replyCount = s.lnk.replyCount := by
  rcases s.report_spec r with ⟨_, e⟩ | ⟨_, e⟩ <;> rw [e]
  · simp [Lnk.replyCount, OutFrame.isReport]
  · rfl

theorem State.addReply_replyCount (k t : Byte) (r : Reply) : (s.addReply k t r).lnk.replyCount = s.lnk.replyCount + 1 := by
  simp [State.addReply, Lnk.replyCount, OutFrame.isReport]

theorem State.addReply_reportCount (k t : Byte) (r : Reply) : (s.addReply k t r).lnk.reportCount = s.lnk.reportCount := by
  simp [State.addReply, Lnk.reportCount, OutFrame.isReport]

/-! ### Conditions -/

/-- A STATION STATE report changes the link and nothing else (R81). -/
theorem State.reportStation_eq (n : Nat) : ∃ l : Lnk, s.reportStation n = { s with lnk := l } := by
  unfold State.reportStation
  split
  · exact ⟨s.lnk, rfl⟩
  · exact s.report_eq _

/-- The condition changes, with it at most the link, and no other station (R81). -/
theorem State.setCondition_eq (n : Nat) (c : Condition) :
    ∃ l : Lnk, s.setCondition n c = { s with lnk := l } ∧ (s.station? n).all (fun st => st.condition == c) = true ∨
      s.setCondition n c = { s.modStation n (fun st => { st with condition := c }) with lnk := l } := by
  unfold State.setCondition
  split
  · next h => exact ⟨s.lnk, .inl ⟨rfl, by simp [h]⟩⟩
  · next st h =>
    by_cases hc : st.condition = c
    · exact ⟨s.lnk, .inl ⟨by rw [if_pos hc], by simp [h, hc]⟩⟩
    · obtain ⟨l, hl⟩ := (s.modStation n (fun st => { st with condition := c })).reportStation_eq n
      exact ⟨l, .inr (by rw [if_neg hc, hl])⟩

/-! ### Saturating addition -/

/-- Nothing is lost between the account and the excess, and the account stays at or below its cap (R73). -/
theorem satAdd_spec (cap v a : Nat) (h : v ≤ cap) :
    (satAdd cap v a).1 + (satAdd cap v a).2 = v + a ∧ (satAdd cap v a).1 ≤ cap ∧ v ≤ (satAdd cap v a).1 := by
  unfold satAdd; split <;> simp <;> omega

/-- There is an excess exactly where the sum passes the cap, and then the account stands at the cap. -/
theorem satAdd_excess (cap v a : Nat) : (satAdd cap v a).2 ≠ 0 ↔ cap < v + a := by
  unfold satAdd; split <;> simp <;> omega

/-! ### Points -/

/-- What a point drives or reads depends on no point's recorded level. -/
theorem State.trueLevel_congr {s t : State} (i : Nat) (hm : (t.point i).mode = (s.point i).mode) (hl : (t.point i).latch = (s.point i).latch)
    (hi : (t.point i).invert = (s.point i).invert) (hw : (t.point i).plant = (s.point i).plant) (hs : t.wlc = s.wlc) :
    t.trueLevel i = s.trueLevel i := by
  unfold State.trueLevel State.drivenValue State.driveSource State.functionLevel
  rw [hm, hl, hi, hw, hs]

/-- Bringing a point to its level changes that point's level, and the link where its watch fires, and nothing else (R157, R167). -/
theorem State.refreshPoint_eq (i : Nat) :
    ∃ l : Lnk, s.refreshPoint i = { s with lnk := l, ppt := (s.setPoint i { s.point i with level := s.trueLevel i }).ppt } := by
  unfold State.refreshPoint
  dsimp only
  split
  · next h =>
    refine ⟨s.lnk, ?_⟩
    have hp : ({ s.point i with level := s.trueLevel i } : Point) = s.point i := by rw [h]
    rw [hp]
    have hv : s.ppt.points.setIfInBounds i (s.point i) = s.ppt.points := by
      apply Vector.ext; intro k hk
      rw [Vector.getElem_setIfInBounds]
      split
      · next e => subst e; unfold State.point; rw [Vector.getElem?_eq_getElem hk]; rfl
      · rfl
    unfold State.setPoint
    rw [hv]
  · split
    · exact (State.report_eq _ _).imp (fun _ hl => hl.trans rfl)
    · exact ⟨s.lnk, rfl⟩

theorem State.refreshPoint_wlc (i : Nat) : (s.refreshPoint i).wlc = s.wlc := by obtain ⟨_, h⟩ := s.refreshPoint_eq i; rw [h]
theorem State.refreshPoint_dsp (i : Nat) : (s.refreshPoint i).dsp = s.dsp := by obtain ⟨_, h⟩ := s.refreshPoint_eq i; rw [h]
theorem State.refreshPoint_stk (i : Nat) : (s.refreshPoint i).stk = s.stk := by obtain ⟨_, h⟩ := s.refreshPoint_eq i; rw [h]
theorem State.refreshPoint_job (i : Nat) : (s.refreshPoint i).job = s.job := by obtain ⟨_, h⟩ := s.refreshPoint_eq i; rw [h]
theorem State.refreshPoint_cst (i : Nat) : (s.refreshPoint i).cst = s.cst := by obtain ⟨_, h⟩ := s.refreshPoint_eq i; rw [h]
theorem State.refreshPoint_slc (i : Nat) : (s.refreshPoint i).slc = s.slc := by obtain ⟨_, h⟩ := s.refreshPoint_eq i; rw [h]

/-- Every point after one is brought to its level: that one has the level it drives or reads, every other is as it was. -/
theorem State.point_refreshPoint (i j : Nat) (hi : i < 32) :
    (s.refreshPoint i).point j = if j = i then { s.point i with level := s.trueLevel i } else s.point j := by
  obtain ⟨l, h⟩ := s.refreshPoint_eq i
  rw [h]
  simp only [State.point, State.setPoint]
  rw [Vector.getElem?_setIfInBounds]
  by_cases hj : j = i
  · subst hj; simp [hi]
  · rw [if_neg (fun e => hj e.symm), if_neg hj]

/-- The level that a point should have is not changed by bringing any point to its level. -/
theorem State.trueLevel_refreshPoint (i j : Nat) (hi : i < 32) : (s.refreshPoint i).trueLevel j = s.trueLevel j := by
  have hp := s.point_refreshPoint i j hi
  apply State.trueLevel_congr j <;> first
    | exact s.refreshPoint_wlc i
    | (rw [hp]; split
       · next e => subst e; rfl
       · rfl)

/-! ### The send list -/

theorem mem_insertFrame (f g : PartFrame) (l : List PartFrame) : g ∈ insertFrame f l ↔ g = f ∨ g ∈ l := by
  induction l with
  | nil => simp [insertFrame]
  | cons a l ih =>
    unfold insertFrame
    split
    · exact List.mem_cons
    · rw [List.mem_cons, ih, List.mem_cons]; exact or_left_comm

theorem PartFrame.sameKind_slot {f g : PartFrame} (h : f.sameKind g = true) : f.slot = g.slot := by
  cases f <;> cases g <;> simp_all [PartFrame.sameKind, PartFrame.slot]

/-- What joining does to the list: the frame takes the place of the one of its kind, or, where there is none, it goes behind the entries that stood
there before the event, among those of the event (R116). -/
theorem Slc.joinFrame_spec (f : PartFrame) (c : Slc) :
    ((∃ g ∈ c.sendList, f.sameKind g = true) ∧
      c.joinFrame f = { c with sendList := c.sendList.map (fun g => if f.sameKind g then f else g) }) ∨
    ((∀ g ∈ c.sendList, f.sameKind g = false) ∧ c.joinFrame f = { c with
      sendList := c.sendList.take c.standing ++ insertFrame f (c.sendList.drop c.standing), joined := c.joined + 1 }) := by
  cases h : c.sendList.any f.sameKind
  · exact .inr ⟨by simpa using h, by simp [Slc.joinFrame, h]⟩
  · exact .inl ⟨by simpa using h, by simp [Slc.joinFrame, h]⟩

/-- The frames of the send list after one is handed over: itself, and those before that are not of its kind for its station (R116). -/
theorem Slc.mem_joinFrame (f g : PartFrame) (c : Slc) :
    g ∈ (c.joinFrame f).sendList ↔ g = f ∨ (g ∈ c.sendList ∧ f.sameKind g = false) := by
  rcases c.joinFrame_spec f with ⟨⟨x, hx, hk⟩, e⟩ | ⟨hn, e⟩ <;> rw [e]
  · simp only [List.mem_map]
    constructor
    · rintro ⟨y, hy, rfl⟩
      by_cases h : f.sameKind y = true
      · exact .inl (if_pos h)
      · rw [if_neg h]; exact .inr ⟨hy, by simpa using h⟩
    · rintro (rfl | ⟨hg, h⟩)
      · exact ⟨x, hx, if_pos hk⟩
      · exact ⟨g, hg, by simp [h]⟩
  · simp only [List.mem_append, mem_insertFrame]
    have hl : g ∈ c.sendList ↔ g ∈ c.sendList.take c.standing ∨ g ∈ c.sendList.drop c.standing := by
      rw [← List.mem_append, List.take_append_drop]
    have := hn g
    grind

theorem State.mem_dropFrames (out : PartFrame → Bool) (f : PartFrame) :
    f ∈ (s.dropFrames out).slc.sendList ↔ f ∈ s.slc.sendList ∧ out f = false := by
  simp [State.dropFrames, Slc.dropFrames, List.mem_filter]

/-- A request that names its records out of range changes nothing and answers BAD_VALUE; any other does what its rule says (R176). -/
theorem whenNamed_spec (inRange : Bool) (act : State → State × Reply) :
    (inRange = true ∧ whenNamed inRange act s = act s) ∨
    (inRange = false ∧ whenNamed inRange act s = (s, { status := .badValue, results := [] })) := by
  cases inRange <;> simp [whenNamed, refuse]

/-- An event changes no more than what happens in it, which begins with no frame handed over. -/
theorem State.event_eq (act : State → State) :
    s.event act = { act s.beginEvent with slc := { (act s.beginEvent).slc with joined := s.slc.joined } } := rfl

theorem mem_insertSlot (n m : Nat) (l : List Nat) : m ∈ insertSlot n l ↔ m = n ∨ m ∈ l := by
  induction l with
  | nil => simp [insertSlot]
  | cons a t ih =>
    unfold insertSlot
    split
    · simp
    · split
      · next e => subst e; simp
      · simp [ih]; grind

/-! ### Grants -/

theorem State.makeGrant_grants (n f : Nat) : (s.makeGrant n f).wlc.grants = s.wlc.grants.put n { flow := f, rate := f } := by
  simp [State.makeGrant, State.modHead, State.modStation, State.handFrame, State.refreshPoint_wlc]

theorem State.makeGrant_waitList (n f : Nat) : (s.makeGrant n f).wlc.waitList = s.wlc.waitList := by
  simp [State.makeGrant, State.modHead, State.modStation, State.handFrame, State.refreshPoint_wlc]

theorem State.closeAccrual_wlc (n : Nat) : (s.closeAccrual n).wlc = s.wlc := by unfold State.closeAccrual; split <;> rfl

theorem State.dropGrant_grants (n : Nat) : (s.dropGrant n).wlc.grants = s.wlc.grants.del n := by
  simp [State.dropGrant, State.modHead, State.modStation, State.dropFrames, State.clearFlowOwed, State.refreshPoint_wlc, State.closeAccrual_wlc]

theorem State.dropGrant_waitList (n : Nat) : (s.dropGrant n).wlc.waitList = s.wlc.waitList := by
  simp [State.dropGrant, State.modHead, State.modStation, State.dropFrames, State.clearFlowOwed, State.refreshPoint_wlc, State.closeAccrual_wlc]

end Sys2Proof.Machine
end

