-- ==== Sys2Proof/Tests/Slice0.lean ====
section
/-!
SUPPORT. Tests of single operations and steps, with results taken from the manual's tables and worked examples; the smoke test of the well-formedness
checks; and, for each statement with hypotheses, concrete states and operands that meet them, at the ends of their ranges where a range is given.
-/
namespace Sys2Proof.Tests

open Sys2Proof.Machine

-- One test after another: the kernel checks below would else all wait at once, each on a thread of its own.
set_option Elab.async false

/-! ### Small states -/

/-- The part after power-on. -/
def r : State := State.reset
/-- The part with some slabs, jobs and stations. -/
def shop (slabs : Tbl Slab) (jobs : Tbl Job) (stations : Tbl Station) : State :=
  { r with stk := { r.stk with slabs := slabs }, job := { r.job with jobs := jobs }, dsp := { r.dsp with stations := stations } }
def onLink (f : Lnk → Lnk) (s : State) : State := { s with lnk := f s.lnk }
def onLine (f : Slc → Slc) (s : State) : State := { s with slc := f s.slc }
def onLoop (f : Wlc → Wlc) (s : State) : State := { s with wlc := f s.wlc }
def onPoint (i : Nat) (f : Point → Point) (s : State) : State := s.setPoint i (f (s.point i))

def stone : Slab :=
  { kind := .slab, parent := none, material := 7, thickness := 300, xExt := 1000, yExt := 800, trim := 10, location := 5, state := .available,
    defects := [], placements := [], carried := 1000, capped := false, loadedOn := none }
def cutAt (st : PlacementState) : Placement :=
  { job := 41, piece := 1, x := 10, y := 10, rotated := false, w := 100, h := 100, state := st, marked := false, token := some 9 }
def loadedStone (st : PlacementState) : Slab := { stone with location := 65282, state := .loaded, loadedOn := some 2, placements := [cutAt st] }
def piece (st : PieceState) : Piece :=
  { material := 7, xExt := 100, yExt := 100, grain := false, group := 0, state := st, settled := false, notMade := false }
def job (st : PieceState) : Job :=
  { state := .opened, cause := none, rateSet := 0, estimate := none, overEstimate := false, pieces := [(1, piece st)], material := 0, machine := 0,
    water := 0, tool := 0 }
def jobIn (st : JobState) : Job := { job .unplaced with state := st }
def step1 (kind : StepKind) (st : StepState) : Step :=
  { number := 1, kind := kind, gate := none, state := st, token := some 9, grantHeld := false, water := 0, lastToken := 9, stopPending := false }
def saw (queue : List Step) : Station :=
  { address := 18, cls := .bridgeSaw, flow := 24, loadCharge := 0, condition := .ready, hold := false, toolLife := 50000, toolLow := false,
    loaded := none, queue := queue, nextStep := 3, nextToken := 10, failures := 0, reason := .none }
/-- One station, in slot 2. -/
def oneSaw (queue : List Step) : State := shop [] [] [(2, saw queue)]
def sawIn (f : Station → Station) : State := shop [] [] [(2, f (saw []))]
/-- A CUT of piece 1 of job 41, at the head of station 2. -/
def cutting (st : StepState) : State :=
  shop [(1, loadedStone .issued)] [(41, job .issued)] [(2, { saw [step1 (.cut 41 1) st] with loaded := some 1, condition := .working })]

def okReply : OutFrame := .reply 0x90#8 1#8 ⟨.ok, []⟩
def dropReport : OutFrame := .report 0 (.lineStuck .data)
def noLoopSet : LoopSetReq :=
  { pump := none, capacity := none, reserve := none, low := none, high := none, margin := none, purgeEnabled := none, intervalIndex := none,
    duration := none, lateLimit := none, supply := none, prime := none, pulse := none }
/-- The state that a command leaves, and the reply last put on the reply list. -/
def after (c : Instr) (s : State) : State :=
  match exec c s with
  | .next t => t
  | _ => s
def answer (c : Instr) (s : State) : Option Reply :=
  match (after c s).lnk.out.getLast? with
  | some (.reply _ _ rep) => some rep
  | _ => none

/-! ### Well-formedness: one ill-formed command for each check -/

theorem test_wf_field_too_wide : (Instr.clockSet 1#8 (.fields ⟨4294967296⟩)).wellFormed = false := by decide
theorem test_wf_byte_field_too_wide : (Instr.stationHold 1#8 (.fields ⟨256⟩)).wellFormed = false := by decide
theorem test_wf_raw_body_too_long : (Instr.loopQuery 1#8 (.raw (List.replicate 251 0#8))).wellFormed = false := by decide +kernel
theorem test_wf_station_field_too_wide : (Instr.alert ⟨37#8, 9#8, 1#8, .fields ⟨0, 0, 256, 0⟩⟩).wellFormed = false := by decide
theorem test_wf_station_body_too_long : (Instr.state ⟨37#8, 8#8, 1#8, .raw (List.replicate 17 0#8)⟩).wellFormed = false := by decide
theorem test_wf_alert_in_row_state : (Instr.state ⟨37#8, 9#8, 1#8, .fields ⟨0, 0, 0, 0⟩⟩).wellFormed = false := by decide
theorem test_wf_state_in_row_alert : (Instr.alert ⟨37#8, 8#8, 1#8, .fields ⟨0, 0, 0, 0⟩⟩).wellFormed = false := by decide
theorem test_wf_free_data_wire_pulsed : (Instr.lineStuck ⟨.clock, some 1⟩).wellFormed = false := by decide
theorem test_wf_kind_names_a_request : (Instr.unknownKind 0x10#8 1#8 []).wellFormed = false := by decide
theorem test_wf_kind_is_no_request : (Instr.unknownKind 0x0F#8 1#8 []).wellFormed = false := by decide
theorem test_wf_unknown_body_too_long : (Instr.unknownKind 0x1B#8 1#8 (List.replicate 251 0#8)).wellFormed = false := by decide +kernel
theorem test_wf_flags_not_sixteen : (Instr.flagsSet 1#8 (.fields ⟨[none]⟩)).wellFormed = false := by decide
theorem test_wf_bank_not_eight : (Instr.bankWrite 1#8 (.fields ⟨0, [1]⟩)).wellFormed = false := by decide
theorem test_wf_accepts : (Instr.bankWrite 1#8 (.fields ⟨255, [0, 1, 2, 3, 4, 5, 6, 255]⟩)).wellFormed = true := by decide

/-! ### Words: the table gives no row bits -/

theorem test_no_word_spells_a_command : decodeTableWord 8 0x10 = none ∧ r.withFetchWord 8 0x10 = r := ⟨rfl, rfl⟩

/-! ### The manual's own figures -/

/-- R171: over the characters 1 to 9 the check is 0x29B1. -/
theorem test_check_value : crc [0x31#8, 0x32#8, 0x33#8, 0x34#8, 0x35#8, 0x36#8, 0x37#8, 0x38#8, 0x39#8] = 0x29B1#16 := by decide +kernel

/-- The windows of the worked decode of chapter 1. -/
def rack : State :=
  { r with stk := { r.stk with zones := (r.stk.zones.set 0 ⟨4848, 15, .quarantine, false, 0, true⟩).set 1 ⟨4608, 255, .store, true, 1500, true⟩ } }
theorem test_worked_decode : rack.decode 4700 = .window 2 ⟨4608, 255, .store, true, 1500, true⟩ ∧
    rack.decode 4850 = .window 1 ⟨4848, 15, .quarantine, false, 0, true⟩ ∧ rack.decode 9000 = .default ⟨.store, true, 0⟩ ∧
    rack.decode 65283 = .floor 3 := by decide +kernel

/-- Chapter 4, worked settlement of slab 10,417: D = 103,867. -/
theorem test_worked_shares : finalShares 103867 [(41, 2240000), (57, 840000)] = [(41, 75540), (57, 28327)] := by decide +kernel
/-- Chapter 4: the value of its remnant, and a tie that goes to the lowest job. -/
theorem test_worked_remnant_and_tie : remnantValue 123000 5400000 840000 = 19133 ∧
    finalShares 1000 [(7, 500000), (12, 500000), (30, 500000)] = [(7, 334), (12, 333), (30, 333)] := by decide +kernel
/-- R70: an exact half goes to the even cent, UP and DOWN as they say; 1,800 s at 1 cent per hour is half a cent. -/
theorem test_rounding : (roundPart .nearestEven 1800 3600).1 = 0 ∧ (roundPart .nearestEven 5400 3600).1 = 2 ∧ (roundPart .up 1 3600).1 = 1 ∧
    (roundPart .down 3599 3600).1 = 0 := by decide
/-- Chapter 5: a PROBE with window 290 to 310 and targets 4 and 5 that reports 302 sets flag 4 true and flag 5 false. -/
def probing : State :=
  shop [(1, { loadedStone .planned with placements := [] })] []
    [(2, { saw [step1 (.probe 290 310 4 5 .plain) .inProgress] with loaded := some 1, condition := .working })]
def probeDone : Instr := .alert ⟨37#8, 9#8, 9#8, .fields ⟨2, 12, 0, 302⟩⟩
theorem test_probe_sets_targets : (after probeDone probing).flag 4 = true ∧ (after probeDone probing).flag 5 = false := by decide +kernel
/-- R118, R117: the poll timer begins a round, and the idle line then polls its first station. -/
theorem test_poll_round : ((after .pollTimerExpiry (oneSaw [])).slc.roundLeft, (after (.lineIdle none) (after .pollTimerExpiry (oneSaw []))).slc.own) =
    ([2], some { frame := .poll 2, fromList := false }) := by decide +kernel
/-- R11, R4: the zone's charge joins the purchase cost. -/
theorem test_receipt_pays_zone : answer (.slabReceive 1#8 (.fields ⟨10417, 2210, 300, 3000, 1800, 20, 120000, 4700⟩)) rack =
    some ⟨.ok, u32 121500 ++ mark false⟩ := by decide +kernel
/-- R131: a reading of 4,095 gives the full capacity. -/
theorem test_full_tank : (after (.levelGaugeSample 4095) r).wlc.volume = 4000 := by decide +kernel
/-- R153: B4 counts one makeup pulse of 10 decilitres as it becomes active. -/
theorem test_makeup_pulse : (after (.pointLevelChange 12 true) (onPoint 12 (fun p => { p with mode := .function }) r)).job.makeup = 10 := by
  decide +kernel

/-- Chapter 4, worked step: 754 s, 25,360 cL and an open interval of 12 L/min for 120 s, a perimeter of 6,080 mm. -/
def workedStep : State :=
  let rates : RateSet := { RateSet.initial with machineSaw := 9600, toolSaw := 42, water := 35 };
  let q : Placement := { cutAt .issued with x := 20, y := 20, w := 2400, h := 640 };
  let s := onLoop (fun w => { w with state := .running, grants := [(2, ⟨24, 12⟩)] })
    (shop [(1, { loadedStone .issued with xExt := 3000, yExt := 1800, placements := [q] })] [(41, { job .issued with rateSet := 1 })]
      [(2, { saw [{ step1 (.cut 41 1) .inProgress with grantHeld := true }] with loaded := some 1, condition := .working })]);
  { s with
    job := { s.job with rateSets := s.job.rateSets.set 1 rates }
    cst := [(2, { step := 1, rate := 12, start := 50634, total := 25360 })]
    clk := { running := 50754, shop := 0 } }
theorem test_worked_step :
    let t := after (.alert ⟨37#8, 9#8, 9#8, .fields ⟨2, 754, 0, 0⟩⟩) workedStep;
    (t.job? 41).map (fun j => (j.machine, j.water, j.tool)) = some (2011, 97, 255) ∧ (t.rateSet 1).inexact = true ∧
    (t.station? 2).map (fun st => (st.toolLife, st.condition)) = some (43920, .ready) ∧ t.wlc.grants = [] ∧
    (t.placement? 41 1).map (fun x => x.2.state) = some .cut := by decide +kernel

/-- Chapter 2, worked sequence: the places that PLACE AUTO finds for job 41's two pieces on slab 20,050. -/
def workedPlan : State :=
  let pc : Nat → Bool → Piece := fun w grain => { piece .unplaced with material := 2210, xExt := w, yExt := 640, grain := grain };
  shop [(20050, { stone with material := 2210, xExt := 3000, yExt := 1800, trim := 20, defects := [⟨2600, 1200, 2800, 1450⟩] })]
    [(41, { job .unplaced with pieces := [(1, pc 2400 true), (2, pc 1100 false)] })] []
theorem test_worked_plan :
    let s := after (.placeAuto 1#8 (.fields (.onSlab 20050 41 1))) workedPlan;
    let t := after (.placeAuto 1#8 (.fields (.anySlab 41 2))) s;
    (s.placement? 41 1).map (fun x => (x.1, x.2.x, x.2.y, x.2.rotated)) = some (20050, 20, 20, false) ∧
    (t.placement? 41 2).map (fun x => (x.1, x.2.x, x.2.y, x.2.rotated)) = some (20050, 20, 664, false) := by decide +kernel

/-- Chapter 5, worked sequence: a step lost with its station stands IN_DOUBT, and is halted when it reports WORKING with its token. -/
def lost : State :=
  shop [(1, loadedStone .issued)] [(41, job .issued)] [(2, { saw [step1 (.cut 41 1) .inDoubt] with loaded := some 1, condition := .unreachable })]
theorem test_lost_step_halted :
    let t := after (.alert ⟨37#8, 9#8, 9#8, .fields ⟨1, 0, 0, 0⟩⟩) lost;
    (t.head? 2).map (·.state) = some .halting ∧ t.slc.sendList = [.halt 2 9 false] ∧ (t.station? 2).map (·.condition) = some .working := by
  decide +kernel

/-- R125: a stuck line is sent as many pulses as free the data wire and then a closing mark, or nine and none, and the sequence again at the next expiry. -/
theorem test_clear_sequence :
    let stuck := fun k => after (.lineStuck ⟨.data, k⟩) (onLine (fun c => { c with line := .other }) r);
    (stuck (some 3)).slc.clears = [⟨3, true⟩] ∧ (stuck none).slc.clears = [⟨9, false⟩] ∧
    (after .pollTimerExpiry (stuck (some 3))).slc.clears = [⟨0, true⟩, ⟨3, true⟩] ∧ (after (.lineIdle none) (stuck none)).slc.clears = [] := by
  decide +kernel
/-- R125: a repeated sequence frees a data wire that the first did not free, with its closing mark, and no second report is placed. -/
theorem test_repeated_clear_frees :
    let stuck := after (.lineStuck ⟨.data, none⟩) (onLine (fun c => { c with line := .other }) r);
    let t := after .pollTimerExpiry (after (.lineStuck ⟨.data, some 4⟩) stuck);
    t.slc.clears = [⟨4, true⟩, ⟨9, false⟩] ∧ t.slc.stuck = true ∧ t.lnk.out = stuck.lnk.out := by decide +kernel

/-- R114: a station that is defined while its frame runs did not have its header acknowledged, and its frame has failed. R127: a frame that runs across a
restart is refused. -/
theorem test_frames_not_acknowledged :
    let alert : Instr := .alert ⟨37#8, 9#8, 0#8, .fields ⟨3, 0, 0, 0⟩⟩;
    let late := after alert (after (.stationDefine 1#8 (.fields ⟨2, 18, 0, 24, 0, 50000⟩)) (after (.openingMark (some 37#8)) r));
    let cut := after alert (after .warmRestart (after (.openingMark (some 37#8)) (oneSaw [])));
    (late.station? 2).map (fun st => (st.failures, st.condition)) = some (1, .offline) ∧
    (cut.station? 2).map (fun st => (st.failures, st.condition)) = some (0, .offline) ∧
    ((after alert (after (.openingMark (some 37#8)) (oneSaw []))).station? 2).map (·.condition) = some .fault := by decide +kernel

/-- R116, R139: the frames of one event stand in ascending slot order, whatever the order of the wait list. -/
def waiting : State :=
  let head := fun (n : Nat) => { saw [{ step1 (.trim 100) .waitingWater with token := none }] with loaded := some n, address := n };
  onLoop (fun w => { w with
      state := .running, sumpHigh := true, waitList := [⟨3, 24⟩, ⟨2, 24⟩], settings := { w.settings with supply := true } })
    (onPoint 14 (fun p => { p with mode := .function, plant := true, level := true }) (shop [] [] [(2, head 2), (3, head 3)]))
theorem test_send_list_ascends : (after (.pointLevelChange 14 false) waiting).slc.sendList =
    [.flowSet 2 24, .offer 2 10 1 100 0 0 0, .flowSet 3 24, .offer 3 10 1 100 0 0 0] := by decide +kernel

/-- R176: an id that no slab can have is refused for its value, not for its absence. -/
theorem test_id_out_of_range : answer (.slabQuery 1#8 (.fields ⟨0⟩)) r = some ⟨.badValue, []⟩ ∧
    answer (.slabQuery 1#8 (.fields ⟨1⟩)) r = some ⟨.notFound, []⟩ := by decide +kernel

/-- R164: on a point that drives, a new invert setting keeps the level and turns the wire. -/
theorem test_invert_turns_driven_wire :
    let s := onPoint 31 (fun p => { p with mode := .output, latch := true, level := true }) r;
    let t := after (.pointInvert 1#8 (.fields ⟨31, 1⟩)) s;
    (s.point 31).wire = true ∧ (t.point 31).level = true ∧ (t.point 31).wire = false := by decide +kernel

/-! ### Witnesses: the link and the resets -/

theorem witness_StepRunsFront : ({ r with pending := [.secondTick] } : State).pending = [.secondTick] ∧ r.pending = [] := ⟨rfl, rfl⟩

theorem witness_BytesCarryFields : (Instr.clockSet 1#8 (.fields ⟨4294967295⟩)).wellFormed = true ∧
    (Instr.alert ⟨37#8, 9#8, 9#8, .fields ⟨3, 4294967295, 2, 65535⟩⟩).wellFormed = true ∧
    (Instr.loopSet 1#8 (.raw (List.replicate 250 0#8))).wellFormed = true := by decide +kernel

/-- The longest body, and the first and last place at which its frame may be cut. -/
theorem witness_FrameBytesBecomeRequest : (List.replicate 250 0#8).length ≤ 250 ∧ r.lnk.rx = [] ∧
    0 < (hostFrame 0x7F#8 1#8 (List.replicate 250 0#8)).length ∧ 255 < (hostFrame 0x10#8 1#8 (List.replicate 250 0#8)).length := by decide +kernel

def waits : ReqFrame := { kind := 0x52#8, tag := 1#8, body := [] }
def other : ReqFrame := { kind := 0x53#8, tag := 1#8, body := [] }
theorem witness_RequestWaitsItsTurn : (Instr.loopStart 1#8 (.fields {})).frame? = some waits ∧
    (onLink (fun l => { l with restartPending := true }) r).lnk.restartPending = true ∧
    (∀ n ∈ [0, 3], (onLink (fun l => { l with requests := other :: List.replicate n other }) r).lnk.restartPending = false ∧ other ≠ waits) ∧
    (let s := onLink (fun l => { l with out := List.replicate 8 okReply }) r;
      s.lnk.restartPending = false ∧ s.lnk.requests = [] ∧ 8 ≤ s.lnk.replyCount) ∧
    (let s := onLink (fun l => { l with requests := [waits, other], out := List.replicate 8 okReply }) r;
      s.lnk.restartPending = false ∧ s.lnk.requests = waits :: [other] ∧ 8 ≤ s.lnk.replyCount) ∧
    (let s := onLink (fun l => { l with requests := [waits, other], out := List.replicate 7 okReply }) r;
      s.lnk.restartPending = false ∧ s.lnk.requests = waits :: [other] ∧ s.lnk.replyCount < 8) := by decide +kernel

/-- A kind of one length, one of two, and one with optional fields, each with a body that it does not allow; and the first and last kinds that name no
request. -/
theorem witness_MisfitFramesRefused : r.takesAtOnce ∧
    (∀ k ∈ [0x1B#8, 0x7F#8], 0x10 ≤ k.toNat ∧ k.toNat ≤ 0x7F ∧ namesRequest k.toNat = false) ∧
    (let bs : List Byte := [2#8];
      (∀ i ∈ [Instr.slabReceive 1#8 (.raw bs), .placeAuto 1#8 (.raw bs), .lineSettings 1#8 (.raw bs), .shopStatus 1#8 (.raw bs)],
        ∀ f ∈ i.frame?, namesRequest f.kind.toNat = true ∧ f.body = bs) ∧
      bs.length ≠ 20 ∧ bs.length ≠ 7 ∧ bs.length ≠ 3 ∧ ¬(leValue (bs.take 1) < 2 ^ [2].length) ∧ bs.length ≠ 0) := by decide +kernel

theorem witness_SendingOrder : r.lnk.out = [] ∧
    (let s := onLink (fun l => { l with out := [okReply, dropReport] }) r;
      s.lnk.out = .reply 0x90#8 1#8 ⟨.ok, []⟩ :: [dropReport] ∧ s.lnk.restartPending = false) ∧
    (let s := onLink (fun l => { l with out := [okReply], restartPending := true }) r;
      s.lnk.out = .reply 0x90#8 1#8 ⟨.ok, []⟩ :: [] ∧ 0x90#8 ≠ 0xF2#8) ∧
    (∀ n ∈ [0, 1], (onLink (fun l => { l with out := [dropReport, okReply], dropped := n }) r).lnk.out = .report 0 (.lineStuck .data) :: [okReply]) ∧
    ((onLink (fun l => { l with out := List.replicate 31 dropReport }) r).lnk.out.filter OutFrame.isReport).length < 32 ∧
    (∀ n ∈ [0, 65535],
      32 ≤ ((onLink (fun l => { l with out := List.replicate 32 dropReport, dropped := n }) r).lnk.out.filter OutFrame.isReport).length) := by
  decide +kernel

theorem witness_RestartTakesEffectWhenAnswered : r.takesAtOnce ∧
    (let s := onLink (fun l => { l with out := [.reply 0xF2#8 1#8 ⟨.ok, []⟩, dropReport], restartPending := true }) (oneSaw []);
      s.lnk.restartPending = true ∧ s.lnk.out = .reply 0xF2#8 1#8 ⟨.ok, []⟩ :: [dropReport]) ∧
    exec .warmRestart (cutting .inProgress) = .next (after .warmRestart (cutting .inProgress)) := by
  and_intros <;> first | rfl | decide +kernel

theorem witness_ClocksAdvance : r.takesAtOnce ∧ 4294967295 ≤ 4294967295 ∧ ¬(4294967296 ≤ 4294967295) := by decide +kernel

/-! ### Witnesses: the water loop's own events -/

/-- The mark is set by one sample and cleared by another, each at its bound, and a third leaves it. -/
theorem witness_SampleDecides :
    (let s := onLoop (fun w => { w with state := .running, grants := [(2, ⟨24, 24⟩)] }) (oneSaw []);
      s.wlc.throttled = false ∧ (after (.levelGaugeSample 818) s).wlc.throttled = true ∧ (after (.levelGaugeSample 819) s).wlc.throttled = false) ∧
    (let s := onLoop (fun w => { w with state := .running, throttled := true, grants := [(2, ⟨24, 12⟩)] }) (oneSaw []);
      s.wlc.throttled = true ∧ (after (.levelGaugeSample 1229) s).wlc.throttled = false ∧
        (after (.levelGaugeSample 1228) s).wlc.throttled = true) := by decide +kernel

theorem witness_LoopTimersAct :
    (onLoop (fun w => { w with seconds := 59 }) r).wlc.seconds < 60 ∧
    (let s := onLoop (fun w => { w with state := .running, seconds := 60, minutes := 59, settings := { w.settings with purgeEnabled := true } }) r;
      60 ≤ s.wlc.seconds ∧ (after .runningMinutes s).wlc.due = true ∧ s.wlc.state = .running) ∧
    (let s := onLoop (fun w => { w with state := .running, seconds := 60, minutes := 58, settings := { w.settings with purgeEnabled := true } }) r;
      60 ≤ s.wlc.seconds ∧ (after .runningMinutes s).wlc.due = false) ∧
    (∀ p ∈ [Priming.mk true 0, Priming.mk false 20],
      let s : State := { onLoop (fun w => { w with priming := some p }) r with clk := { running := 40, shop := 0 } };
      s.wlc.priming = some p ∧ p.start + (if p.on then 40 else 20) ≤ s.clk.running) ∧
    (∀ p ∈ [Priming.mk true 0, Priming.mk false 20],
      let s : State := { onLoop (fun w => { w with priming := some p }) r with clk := { running := 39, shop := 0 } };
      s.wlc.priming = some p ∧ s.clk.running < p.start + (if p.on then 40 else 20)) ∧
    r.wlc.priming = none := by decide +kernel

theorem witness_PurgeEndGoesOn : r.wlc.purgeEnd = none ∧
    (let s := onLoop (fun w => { w with purgeEnd := some 1 }) r;
      s.wlc.purgeEnd = some 1 ∧ s.clk.running < 1) ∧
    (∀ c ∈ [(LoopState.purging, Deferred.none), (.purging, .standby), (.purging, .handover), (.standbyPurge, .none), (.standbyPurge, .resume),
        (.wakePurge, .none), (.manual, .none)],
      let s : State :=
        { onLoop (fun w => { w with state := c.1, deferred := c.2, purgeEnd := some 180 }) r with clk := { running := 180, shop := 0 } };
      s.wlc.purgeEnd = some 180 ∧ 180 ≤ s.clk.running ∧ s.wlc.state = c.1 ∧ s.wlc.deferred = c.2) := by decide +kernel

/-! ### Witnesses: the station line -/

theorem witness_RoundsAndStuckLine : r.slc.stuck = false ∧
    (∀ k ∈ [0, 2, 3], let s := onLine (fun c => { c with stuck := true, roundLeft := [2] }) (sawIn (fun st => { st with failures := k }));
      s.slc.stuck = true ∧ s.slc.roundLeft.Nodup ∧ s.station? 2 = some { saw [] with failures := k } ∧ 2 ∈ s.slc.roundLeft) ∧
    (let s := onLine (fun c => { c with line := .other }) r;
      s.slc.line = .other ∧ s.slc.stuck = false) ∧
    r.slc.line ≠ .other ∧
    (let s := onLine (fun c => { c with line := .other, stuck := true }) r;
      s.slc.line = .other ∧ s.slc.stuck = true) := by decide +kernel

/-- A round whose turn is station 2, with what is owed to it. -/
def turn (f : Slc → Slc) : State :=
  onLoop (fun w => { w with grants := [(2, ⟨24, 12⟩)] }) (onLine (fun c => f { c with roundLeft := [2] }) (oneSaw []))
theorem witness_IdleLineTakesNextFrame :
    (onLine (fun c => { c with line := .own }) r).slc.line = .own ∧
    (let s := onLine (fun c => { c with window := some 2 }) r;
      s.slc.line ≠ .own ∧ s.slc.window ≠ none) ∧
    (r.slc.line ≠ .own ∧ r.slc.window = none ∧ r.slc.sendList = [] ∧ r.slc.roundLeft = []) ∧
    (let s := onLine (fun c => { c with line := .other, sendList := [.poll 2] }) r;
      s.slc.line ≠ .own ∧ s.slc.window = none ∧ s.slc.sendList = .poll 2 :: []) ∧
    (let s := turn (fun c => { c with haltOwed := [(2, ⟨9, false⟩)] });
      s.slc.line ≠ .own ∧ s.slc.window = none ∧ s.slc.sendList = [] ∧ s.slc.roundLeft = 2 :: [] ∧ s.slc.haltOwed.get? 2 = some ⟨9, false⟩ ∧
        s.slc.turnHalt = false) ∧
    (let s := turn (fun c => { c with haltOwed := [(2, ⟨9, false⟩)], turnHalt := true, flowOwed := [2] });
      s.slc.window = none ∧ s.slc.sendList = [] ∧ s.slc.roundLeft = 2 :: [] ∧ s.slc.turnHalt = true ∧ 2 ∈ s.slc.flowOwed ∧
        s.wlc.grants.get? 2 = some ⟨24, 12⟩ ∧ s.slc.turnFlow = false) ∧
    (let s := turn (fun c => { c with flowOwed := [2], turnFlow := true });
      s.slc.window = none ∧ s.slc.sendList = [] ∧ s.slc.roundLeft = 2 :: [] ∧ s.slc.haltOwed.get? 2 = none ∧ s.slc.turnFlow = true) ∧
    (let s := turn id;
      s.slc.roundLeft = 2 :: [] ∧ 2 ∉ s.slc.flowOwed) := by decide +kernel

/-- A frame of the part's on the line, to the station at address 18, whose header is 36. -/
def sending (f : PartFrame) (l : Bool) : State := onLine (fun c => { c with line := .own, own := some ⟨f, l⟩ }) (oneSaw [])
theorem witness_LowerHeaderWins : r.slc.line ≠ .own ∧
    (∀ f ∈ [PartFrame.poll 2, .flowSet 2 24, .halt 2 9 false, .offer 2 9 1 100 0 0 0], ∀ l ∈ [true, false],
      (sending f l).slc.line = .own ∧ (sending f l).slc.own = some ⟨f, l⟩ ∧ (sending f l).station? f.slot = some (saw []) ∧
        2 * (saw []).address ≤ (36#8).toNat ∧ (35#8).toNat < 2 * (saw []).address) ∧
    (let s := onLine (fun c => { c with sendList := [.flowSet 2 24] }) (oneSaw []);
      s.slc.line ≠ .own ∧ s.slc.window = none ∧ s.slc.sendList = .flowSet 2 24 :: [] ∧ s.station? 2 = some (saw [])) := by decide +kernel

/-- An offer of the head of station 2 on the line. -/
def offering (stop : Bool) (fails : Nat) (c : Condition) : State :=
  onLine (fun c => { c with line := .own, own := some ⟨.offer 2 9 0 100 100 300 0, true⟩ })
    (onLoop (fun w => { w with state := .running, grants := [(2, ⟨24, 24⟩)] })
      (shop [(1, loadedStone .issued)] [(41, job .issued)]
        [(2, { saw [{ step1 (.cut 41 1) .offered with stopPending := stop, grantHeld := true }] with loaded := some 1, failures := fails, condition := c })]))
theorem witness_AcceptedFrames :
    ((sending (.poll 2) false).slc.own = some ⟨.poll 2, false⟩ ∧ (sending (.poll 2) false).station? 2 = some (saw [])) ∧
    (sending (.flowSet 2 24) true).slc.own = some ⟨.flowSet 2 24, true⟩ ∧ (sending (.halt 2 9 true) true).slc.own = some ⟨.halt 2 9 true, true⟩ ∧
    ∀ stop ∈ [true, false], let s := offering stop 2 .ready;
      s.slc.own = some ⟨.offer 2 9 0 100 100 300 0, true⟩ ∧
      (s.station? 2).map (fun st => (st.queue.map (·.state), st.condition)) = some ([.offered], .ready) := by decide +kernel

theorem witness_ReturnedFrames :
    ((sending (.poll 2) false).slc.own = some ⟨.poll 2, false⟩ ∧ (sending (.poll 2) false).station? 2 = some (saw []) ∧
      FrameEnd.refused ≠ .accepted ∧ FrameEnd.failed ≠ .accepted) ∧
    (∀ k ∈ [0, 2, 3], let s := offering false k .ready;
      s.slc.own = some ⟨.offer 2 9 0 100 100 300 0, true⟩ ∧ (s.head? 2).map (fun h => (h.state, h.grantHeld, h.kind)) = some (.offered, true, .cut 41 1) ∧
        (s.station? 2).map (·.failures) = some k) ∧
    (∀ k ∈ [0, 1],
      let s := onLoop (fun w => { w with grants := [(2, ⟨24, 24⟩)] })
        (onLine (fun c => { c with own := some ⟨.flowSet 2 24, true⟩ }) (sawIn (fun st => { st with failures := k })));
      s.slc.own = some ⟨.flowSet 2 24, true⟩ ∧ s.station? 2 = some { saw [] with failures := k } ∧ s.wlc.grants.get? 2 ≠ none ∧ k < 2) ∧
    (let s := onLine (fun c => { c with own := some ⟨.halt 2 9 false, false⟩ }) (sawIn (fun st => { st with failures := 1 }));
      s.slc.own = some ⟨.halt 2 9 false, false⟩ ∧ s.station? 2 = some { saw [] with failures := 1 } ∧ (1 : Nat) < 2) := by decide +kernel

/-- A report of station 2, whose header is 37. -/
def told (tok : Byte) (rep : LineReportReq) : StationFrame := { header := 37#8, kind := 0x09#8, token := tok, body := .fields rep }
def done (seconds : Nat) : LineReportReq := { condition := 2, elapsed := seconds, disposition := 0, thickness := 302 }
def standing (condition disposition : Nat) : LineReportReq := { done 5 with condition := condition, disposition := disposition }
/-- The reports that end a CUT that is out, and ones that do not, each with the step's token, with none and with another's. -/
theorem witness_ReportEndsCut_reports : ∀ rep ∈ [done 4294967295, standing 3 1, standing 3 2, standing 0 1, standing 0 2, standing 1 0],
    ∀ tok ∈ [9#8, 0#8, 10#8], (told tok rep).body = .fields rep ∧ (told tok rep).header = 37#8 ∧ (told tok rep).kind = 0x09#8 ∧
      rep.condition ≤ 3 ∧ rep.disposition ≤ 2 := by decide +kernel
theorem witness_ReportEndsCut : ∀ st ∈ [StepState.inProgress, .halting, .inDoubt],
    let s := onLine (fun c => { c with window := some 2 }) (cutting st);
    s.slc.window = some 2 ∧ s.slc.hearing = .hearing ∧ s.slc.line ≠ .own ∧ s.slotOfHeader 37#8 = some 2 ∧
    (s.station? 2).map (·.queue) = some [step1 (.cut 41 1) st] ∧ (step1 (.cut 41 1) st).token = some 9 ∧
    s.dsp.stations.map (fun x => (x.1, x.2.queue.map (fun h => (h.number, h.kind)))) = [(2, [(1, .cut 41 1)])] ∧ s.wlc.waitList = [] ∧
    s.placement? 41 1 = some (1, cutAt .issued) ∧ s.piece? 41 1 = some (piece .issued) ∧ s.job? 41 = some (job .issued) ∧ (job .issued).rateSet ≤ 3 := by decide +kernel

/-- A TRIM and a PROBE of the slab on station 2, with and without a grant. -/
def ending (kind : StepKind) (st : StepState) (held : Bool) : State :=
  onLoop (fun w => { w with grants := if held then [(2, ⟨24, 24⟩)] else [] })
    (shop [(1, { loadedStone .planned with placements := [] })] []
      [(2, { saw [{ step1 kind st with grantHeld := held }] with loaded := some 1, condition := .working })])
theorem witness_DoneChargesSlab : ∀ kind ∈ [StepKind.trim 100, .probe 290 310 1 15 .plain, .probe 290 310 4 5 .strict],
    ∀ st ∈ [StepState.inProgress, .halting, .inDoubt], ∀ held ∈ [true, false],
    let s := ending kind st held;
    let h := { step1 kind st with grantHeld := held };
    (told 9#8 (done 12)).body = .fields (done 12) ∧ (told 9#8 (done 12)).kind = 0x09#8 ∧ s.slc.hearing = .hearing ∧ s.slc.line ≠ .own ∧ s.slotOfHeader 37#8 = some 2 ∧
    s.station? 2 = some { saw [h] with loaded := some 1, condition := .working } ∧ h.token = some 9 ∧ s.wlc.waitList = [] ∧
    s.slab? 1 = some { loadedStone .planned with placements := [] } := by decide +kernel

theorem witness_IdleReportSetsCondition :
    (∀ c ∈ [Condition.offline, .unreachable, .ready, .fault, .working], ∀ q ∈ [[], [step1 (.trim 100) .queued], [step1 (.trim 100) .waitingWater]],
      let s := shop [] [] [(2, { saw q with condition := c })];
      s.slc.line ≠ .own ∧ s.slc.hearing = .hearing ∧ s.slotOfHeader 37#8 = some 2 ∧ s.station? 2 = some { saw q with condition := c } ∧
      ∀ h ∈ q.head?, h.state = .queued ∨ h.state = .waitingWater) ∧
    (let s := oneSaw [step1 (.trim 100) .offered];
      s.slotOfHeader 37#8 = some 2 ∧ s.station? 2 = some (saw [step1 (.trim 100) .offered])) := by decide +kernel

theorem witness_FailuresCount : ∀ k ∈ [0, 2, 3], ∀ q ∈ [[], [step1 (.trim 100) .inProgress], [step1 (.trim 100) .halting]],
    let s := shop [] [] [(2, { saw q with failures := k, condition := .working })];
    s.station? 2 = some { saw q with failures := k, condition := .working } ∧ s.slotOfHeader 37#8 = some 2 ∧ s.slc.own = none ∧
    (onLine (fun c => { c with window := some 2 }) s).slc.window = some 2 ∧ (onLine (fun c => { c with window := some 2 }) s).slc.line = .idle ∧
    (onLine (fun c => { c with line := .own, own := some ⟨.poll 2, false⟩ }) s).slc.own = some ⟨.poll 2, false⟩ ∧
    (∀ h ∈ [Hearing.unheard, .declined, .failed], ∀ w ∈ [none, some 2],
      let t := onLine (fun c => { c with line := .other, hearing := h, window := w }) s;
      t.slc.hearing = h ∧ t.slc.line ≠ .own ∧ t.slc.window = w ∧ t.station? 2 = s.station? 2 ∧ t.slotOfHeader 37#8 = some 2) ∧
    (told 0#8 (standing 4 0)).body = .fields (standing 4 0) ∧ 3 < (standing 4 0).condition ∧ 2 < (standing 0 3).disposition := by decide +kernel

/-! ### Witnesses: the plant port -/

theorem witness_PointWrites : r.takesAtOnce ∧ 31 < 32 ∧ 1 < 2 ∧ 3 < 4 ∧ 0 < 32 ∧ 31 < 32 ∧ (0 : Nat) ≤ 1 ∧ (1 : Nat) ≤ 1 ∧ (r.point 31).mode ≠ .function ∧
    (let s := onPoint 15 (fun p => { p with mode := .function }) r;
      (s.point 15).mode = .function ∧ (false != false) = (s.point 15).level) ∧
    (let s := onPoint 31 (fun p => { p with mode := .output }) r;
      s.driveSource 31 ≠ .none ∧ (s.point 31).level = (s.point 31).latch ∧ (s.point 31).invert ≠ (1 == 1)) ∧
    Watch.code .none = 0 ∧ Watch.code .both = 3 := by decide +kernel

theorem witness_BankWritten : r.takesAtOnce ∧ 3 ≤ 3 ∧ [0, 1, 0, 1, 0, 1, 0, 1].length = 8 ∧ (∀ v ∈ [0, 1, 0, 1, 0, 1, 0, 1], v ≤ 1) ∧ 3 < 4 ∧
    (∃ v ∈ [0, 1, 2, 0, 0, 0, 0, 0], 1 < v) := by decide +kernel

/-- The loop holds a grant, a purge and an open makeup valve; the points of banks A to C are in FUNCTION mode. -/
def busy : State :=
  onLoop (fun w => { w with state := .manual, handover := some .keepPurge, grants := [(1, ⟨24, 24⟩)], purgeEnd := some 5, makeupOpen := true })
    ((List.range 24).foldl (fun s i => onPoint i (fun p => { p with mode := .function }) s) r)
theorem witness_ModeChange : r.takesAtOnce ∧ 31 < 32 ∧ PointMode.code .input ≠ 3 ∧ PointMode.code .output ≠ 3 ∧ PointMode.code .function ≠ 3 ∧ PointMode.code .function = 2 ∧ 24 ≤ 24 ∧ 24 ≤ 31 ∧ (r.point 31).mode = .input ∧
    (∀ i ∈ [0, 8, 9, 10, 11, 15], busy.takesAtOnce ∧ (busy.point i).mode = .function ∧
      ((i < 8 ∧ busy.wlc.grants.get? (i + 1) ≠ none) ∨ (i = 8 ∧ busy.wlc.pumpRunning = true) ∨ ((i = 9 ∨ i = 11) ∧ busy.wlc.purgeEnd ≠ none) ∨
        (i = 10 ∧ busy.wlc.makeupOpen = true) ∨ (i = 15 ∧ busy.wlc.state ≠ .off ∧ busy.wlc.state ≠ .stopped))) ∧
    (∀ i ∈ [0, 7, 14, 15, 16, 23], (r.point i).mode ≠ .function) ∧
    (let s := onLoop (fun w => { w with waitList := [⟨1, 24⟩] }) (onPoint 0 (fun p => { p with mode := .function }) r);
      (s.point 0).mode = .function ∧ s.wlc.grants.get? 1 = none) ∧
    (let s := onPoint 14 (fun p => { p with mode := .function, plant := true, level := true }) r;
      (s.point 14).mode = .function ∧ (s.point 14).plant ≠ (s.point 14).invert) ∧
    (let s := onLoop (fun w => { w with state := .running }) (onPoint 15 (fun p => { p with plant := true }) r);
      (s.point 15).mode ≠ .function ∧ (s.point 15).plant ≠ (s.point 15).invert ∧ s.wlc.state ≠ .off) ∧
    (let s := onPoint 16 (fun p => { p with mode := .function }) r;
      (s.point 16).mode ≠ .input) := by decide +kernel

theorem witness_WireChangeTaken : (r.point 0).mode ≠ .function ∧
    ∀ i ∈ [12, 13, 14, 16, 23], let s := onPoint i (fun p => { p with mode := .function }) r;
      (s.point i).mode = .function ∧ s.driveSource i = .none ∧ (true != (s.point i).invert) ≠ (s.point i).level := by decide +kernel

/-- Two stations, whose steps are running and in doubt, in a loop that primes or holds no grant. -/
def stopping (st : LoopState) : State :=
  onLoop (fun w => { w with state := st })
    (onPoint 15 (fun p => { p with mode := .function })
      (shop [] [] [(2, saw [step1 (.trim 100) .inProgress]), (3, { saw [step1 (.trim 100) .inDoubt] with address := 19 })]))
theorem witness_PlantStops : ∀ st ∈ [LoopState.priming, .running, .manual], let s := stopping st;
    (s.point 15).mode = .function ∧ (s.point 15).level = false ∧ true ≠ (s.point 15).invert ∧ s.wlc.state ≠ .off ∧ s.wlc.state ≠ .stopped ∧
    (s.head? 2).map (·.state) = some .inProgress ∧ (s.head? 3).map (·.state) = some .inDoubt ∧ (s.point 0).mode = .input ∧
    (busy.point 11).mode = .function ∧ s.slc.sendList = [] ∧ s.wlc.grants = [] ∧ s.lnk.reportCount < 16 := by decide +kernel

/-! ### Witnesses: the stock, the plan and the jobs -/

theorem witness_LocationDecode : rack.takesAtOnce ∧ 65281 ≤ 65281 ∧ 65288 ≤ 65288 ∧ ¬(65281 ≤ 65280 ∧ 65280 ≤ 65288) ∧
    ¬(65281 ≤ 65289 ∧ 65289 ≤ 65288) ∧
    (let hit := fun (code : Nat) (z : ZoneWindow) => z.enabled = true ∧ ∀ i < 16, z.mask.testBit i = false → code.testBit i = z.base.testBit i;
      (∀ code ∈ [4608, 4847], hit code rack.stk.zones[(1 : Fin 8)] ∧ ∀ j : Fin 8, j < 1 → ¬hit code rack.stk.zones[j]) ∧
      (∀ code ∈ [4848, 4863], hit code rack.stk.zones[(0 : Fin 8)] ∧ ∀ j : Fin 8, j < 0 → ¬hit code rack.stk.zones[j]) ∧
      ∀ code ∈ [4607, 4864, 65280, 65289], ∀ k : Fin 8, ¬hit code rack.stk.zones[k]) := by decide +kernel

theorem witness_ZonesWritten : r.takesAtOnce ∧
    (∀ w ∈ [1, 8], 1 ≤ w ∧ w ≤ 8 ∧ ZoneKind.code .quarantine = 1 ∧ true.toNat = 1 ∧ false.toNat = 0) ∧ 0 < 1 ∧ 8 < 9 ∧ 1 < 2 ∧
    ZoneKind.code .store = 0 := by decide +kernel

/-- A receipt whose sum meets the cap, and one that passes it. -/
theorem witness_SlabReceipt : r.takesAtOnce ∧ rack.takesAtOnce ∧ ¬(99999999 < 99998499 + (rack.decode 4700).charge) ∧
    99999999 < 99998500 + (rack.decode 4700).charge := by decide +kernel

theorem witness_SlabPreparation : (shop [(1, stone)] [] []).takesAtOnce ∧ ¬(1 ≤ 100000000 ∧ 100000000 ≤ 99999999) ∧
    (rack.takesAtOnce ∧ ¬(65281 ≤ 4700 ∧ 4700 ≤ 65288) ∧ rack.slab? 99999999 = none ∧ rack.stk.slabs.length < 256 ∧
      99998499 + (rack.decode 4700).charge ≤ 99999999) := by decide +kernel

theorem witness_SlabMovedLoadedScrapped :
    (let s := shop [(1, stone)] [] [(2, saw [])];
      s.takesAtOnce ∧ s.station? 2 = some (saw []) ∧ s.slab? 1 = some stone ∧ s.station? 8 = none ∧ s.slab? 99999999 = none ∧
        ¬(1 ≤ 9 ∧ 9 ≤ 8 ∧ 1 ≤ 1 ∧ 1 ≤ 99999999) ∧ 1 ≤ 8 ∧ 8 ≤ 8 ∧ 1 ≤ 99999999) := by decide +kernel

theorem witness_ReadsChangeNothing :
    (let sl : Slab := { stone with location := 65535, carried := 99999999, defects := [⟨0, 0, 1000, 800⟩] };
      let s := shop [(99999999, sl)] [(41, job .unplaced)] [(2, saw [])];
      s.takesAtOnce ∧ ¬(1 ≤ 0 ∧ 0 ≤ 99999999) ∧ 1 ≤ 99999999 ∧ s.slab? 1 = none ∧ s.slab? 99999999 = some sl ∧
        sl.defects[0]? = some ⟨0, 0, 1000, 800⟩) ∧
    (let s := cutting .inProgress;
      s.takesAtOnce ∧ s.slab? 1 = some (loadedStone .issued) ∧ s.slab? 2 = none ∧
      s.piece? 41 1 ≠ none ∧ s.piece? 41 40 = none ∧ s.placement? 41 1 = some (1, cutAt .issued) ∧ s.job? 41 = some (job .issued) ∧ s.job? 65535 = none ∧
      (s.station? 2).isSome = true ∧ s.station? 8 = none) ∧
    (let s := shop [] [(41, job .unplaced)] [];
      s.takesAtOnce ∧ s.piece? 41 1 ≠ none ∧ s.placement? 41 1 = none) := by
  and_intros <;> decide +kernel

theorem witness_SharesByLargestRemainder : Tbl.sorted [(7, 500000), (12, 500000), (30, 500001)] ∧
    0 < ([(7, 500000), (12, 500000), (30, 500001)].map (fun e : Nat × Nat => e.2)).sum ∧
    (let areas : Tbl Nat := [(7, 500000), (12, 500000), (30, 500000)];
      (finalShares 1000 areas).get? 7 = some (1000 * 500000 / 1500000 + 1) ∧ (finalShares 1000 areas).get? 12 = some (1000 * 500000 / 1500000)) := by
  decide +kernel

/-- A slab whose one piece is cut, and the smallest remnant that keeps its distance from it. -/
def cutStone : Slab := { stone with state := .allocated, placements := [cutAt .cut] }
def closing : State := shop [(1, cutStone)] [(41, job .cut)] []
def kept : RemnantReq := { remnantId := 99999999, x0 := 114, y0 := 10, w := 300, h := 300 }
theorem witness_CloseConservesCost : closing.takesAtOnce ∧ (1 ≤ 1 ∧ 1 ≤ 99999999) ∧ closing.slab? 1 = some cutStone ∧ closing.stk.slabs.sorted ∧
    closing.job.jobs.sorted ∧ closing.moneyCapped ∧ closing.job.overhead + cutStone.carried ≤ 9999999999 ∧
    (cutStone.state ≠ .loaded ∧ cutStone.placements ≠ [] ∧ ∀ q ∈ cutStone.placements, q.state = .cut ∨ q.state = .broken) ∧
    (∀ q ∈ cutStone.placements, closing.job? q.job ≠ none) ∧ (∀ e ∈ closing.job.jobs, e.2.rateSet ≤ 3) ∧
    (∀ e ∈ closing.job.jobs, ¬(closing.rateSet e.2.rateSet).holdOnSaturate = true) ∧
    (∀ m ∈ [none, some kept], ∀ x, m = some x → (1 ≤ x.remnantId ∧ x.remnantId ≤ 99999999) ∧ closing.slab? x.remnantId = none ∧
      (closing.pln.minRemnant ≤ x.w ∧ closing.pln.minRemnant ≤ x.h) ∧
      (cutStone.trim ≤ x.x0 ∧ cutStone.trim ≤ x.y0 ∧ x.x0 + x.w + cutStone.trim ≤ cutStone.xExt ∧ x.y0 + x.h + cutStone.trim ≤ cutStone.yExt) ∧
      ∀ q ∈ cutStone.placements, x.x0 + x.w + closing.pln.kerf ≤ q.x ∨ q.x + q.w + closing.pln.kerf ≤ x.x0 ∨
        x.y0 + x.h + closing.pln.kerf ≤ q.y ∨ q.y + q.h + closing.pln.kerf ≤ x.y0) := by
  and_intros <;> decide +kernel
/-- Each refusal of SLAB CLOSE at the edge of its check. -/
theorem witness_CloseConservesCost_refusals :
    ¬(1 ≤ 0 ∧ 0 ≤ 99999999) ∧ ¬(1 ≤ 100000000 ∧ 100000000 ≤ 99999999) ∧ closing.slab? 2 = none ∧
    (let s := shop [(1, stone)] [] [];
      s.takesAtOnce ∧ s.slab? 1 = some stone ∧ stone.placements = []) ∧
    (∀ k ∈ [0, 100000000], ¬(1 ≤ k ∧ k ≤ 99999999)) ∧ closing.slab? 1 ≠ none ∧
    ¬(closing.pln.minRemnant ≤ 299) ∧ closing.pln.minRemnant ≤ kept.w ∧ closing.slab? kept.remnantId = none ∧
    (¬(cutStone.trim ≤ 9) ∧ cutStone.trim ≤ kept.y0 ∧ kept.x0 + kept.w + cutStone.trim ≤ cutStone.xExt ∧
      kept.y0 + kept.h + cutStone.trim ≤ cutStone.yExt) ∧
    (let x := { kept with x0 := 113 };
      x.x0 + x.w + cutStone.trim ≤ cutStone.xExt ∧ ¬∀ q ∈ cutStone.placements, x.x0 + x.w + closing.pln.kerf ≤ q.x ∨
        q.x + q.w + closing.pln.kerf ≤ x.x0 ∨ x.y0 + x.h + closing.pln.kerf ≤ q.y ∨ q.y + q.h + closing.pln.kerf ≤ x.y0) := by
  and_intros <;> decide +kernel

/-- A slab that holds the planned, marked placement of piece 1 of job 41. -/
def planned (q : Placement) : State := shop [(1, { stone with state := .allocated, placements := [q] })] [(41, job q.state.toPiece)] []
theorem witness_PlanRequests :
    (let s := planned (cutAt .planned);
      s.takesAtOnce ∧ 5 ≠ s.pln.kerf ∧ (∃ e ∈ s.stk.slabs, e.2.placements ≠ []) ∧ r.takesAtOnce ∧ ¬∃ e ∈ r.stk.slabs, e.2.placements ≠ []) ∧
    (let s := planned (cutAt .planned);
      s.piece? 41 2 = none ∧ s.piece? 41 1 = some (piece .planned) ∧ s.placement? 41 1 = some (1, cutAt .planned) ∧
      s.slab? 1 = some { stone with state := .allocated, placements := [cutAt .planned] } ∧ (cutAt .planned).state = .planned) ∧
    (let s := planned (cutAt .issued);
      s.takesAtOnce ∧ s.piece? 41 1 ≠ none ∧ (cutAt .issued).state ≠ .planned ∧ s.placement? 41 1 = some (1, cutAt .issued)) ∧
    (∀ o ∈ [1, 4], o ≠ 2 ∧ o ≠ 3) ∧ ¬((1 ≤ 0 ∧ 0 ≤ 65535) ∧ (1 ≤ 1 ∧ 1 ≤ 40)) ∧ ¬((1 ≤ 65535 ∧ 65535 ≤ 65535) ∧ (1 ≤ 41 ∧ 41 ≤ 40)) ∧
    (let s := planned { cutAt .planned with marked := true };
      s.takesAtOnce ∧ s.placement? 41 1 = some (1, { cutAt .planned with marked := true })) := by decide +kernel

theorem witness_PlaceMade :
    (let s := shop [(1, stone)] [(41, job .unplaced)] [];
      s.takesAtOnce ∧ 1 ≤ 1 ∧ 65535 ≤ 65535 ∧ s.slab? 2 = none ∧ s.slab? 1 = some stone ∧ s.job? 41 = some (job .unplaced) ∧
        s.piece? 41 1 = some (piece .unplaced)) := by decide +kernel

/-- A slab with one piece on it, a smaller one, and a job with a second piece to place. -/
def choosing : State :=
  shop [(1, { stone with state := .allocated, placements := [cutAt .planned] }), (2, { stone with yExt := 700 })]
    [(41, { job .planned with pieces := [(1, piece .planned), (2, piece .unplaced)] })] []
theorem slabs_of_choosing (id : Nat) (sl : Slab) (h : choosing.slab? id = some sl) :
    (id = 1 ∧ sl = { stone with state := .allocated, placements := [cutAt .planned] }) ∨ (id = 2 ∧ sl = { stone with yExt := 700 }) := by
  have e : choosing.slab? id = if 1 = id then some { stone with state := .allocated, placements := [cutAt .planned] }
      else if 2 = id then some { stone with yExt := 700 } else none := rfl
  rw [e] at h
  by_cases h1 : 1 = id
  · rw [if_pos h1] at h; exact .inl ⟨h1.symm, (Option.some.inj h).symm⟩
  · rw [if_neg h1] at h
    by_cases h2 : 2 = id
    · rw [if_pos h2] at h; exact .inr ⟨h2.symm, (Option.some.inj h).symm⟩
    · rw [if_neg h2] at h; cases h

/-- A slab with room for the piece: at its lowest corner to the right of the placement on it. -/
theorem witness_PlaceAutoFindsFirst_named : choosing.takesAtOnce ∧ choosing.stk.slabs.sorted ∧ (choosing.piece? 41 2).map (·.state) = some .unplaced ∧
    choosing.job? 41 = some { job .planned with pieces := [(1, piece .planned), (2, piece .unplaced)] } ∧
    (let sl : Slab := { stone with state := .allocated, placements := [cutAt .planned] };
      sl.state ≠ .received ∧ sl.placements.length < 24 ∧ choosing.inQuarantine sl = false ∧ (piece .unplaced).material = sl.material ∧
      choosing.groupFree 1 41 (piece .unplaced) ∧ sl.fitsAt choosing.pln.kerf (piece .unplaced) 114 10 false ∧
      ∀ x y rot, sl.fitsAt choosing.pln.kerf (piece .unplaced) x y rot →
        10 < y ∨ (10 = y ∧ (114 < x ∨ (114 = x ∧ (false = true → rot = true))))) := by
  and_intros <;> try decide +kernel
  intro x y rot h
  have hc : (x, y) ∈ [(10, 10), (114, 10), (10, 114)] := h.1
  simp only [List.mem_cons, Prod.mk.injEq, List.not_mem_nil, or_false] at hc
  rcases hc with ⟨rfl, rfl⟩ | ⟨rfl, rfl⟩ | ⟨rfl, rfl⟩
  · exact absurd h.2.2 (by cases rot <;> decide +kernel)
  · exact .inr ⟨rfl, .inr ⟨rfl, fun e => by cases e⟩⟩
  · exact .inl (by decide)

/-- A piece that no slab has room for. -/
def tooLong : Piece := { piece .unplaced with xExt := 3600, yExt := 3600 }
def crowded : State := shop [(1, stone)] [(41, { job .planned with pieces := [(2, tooLong)] })] []
theorem witness_PlaceAutoFindsFirst_none : crowded.takesAtOnce ∧ crowded.stk.slabs.sorted ∧ crowded.piece? 41 2 = some tooLong ∧
    tooLong.state = .unplaced ∧ stone.state ≠ .received ∧ crowded.groupFree 1 41 tooLong ∧
    (∀ x y rot, ¬stone.fitsAt crowded.pln.kerf tooLong x y rot) ∧
    ∀ id sl x y rot, crowded.slab? id = some sl → ¬sl.fitsAt crowded.pln.kerf tooLong x y rot := by
  have none : ∀ x y rot, ¬stone.fitsAt crowded.pln.kerf tooLong x y rot := by
    intro x y rot h
    have hw : x + (if rot then tooLong.yExt else tooLong.xExt) ≤ 990 := h.2.2.1.2.2.1
    cases rot <;> simp [tooLong] at hw
  and_intros <;> first | exact none | decide +kernel | skip
  intro id sl x y rot h
  have e : crowded.slab? id = if 1 = id then some stone else Option.none := rfl
  rw [e] at h
  by_cases h1 : 1 = id
  · rw [if_pos h1] at h; rw [← Option.some.inj h]; exact none x y rot
  · rw [if_neg h1] at h; cases h

/-- Of two slabs with room, the smaller comes first. -/
theorem witness_PlaceAutoFindsFirst_any :
    (let sl : Slab := { stone with yExt := 700 };
      choosing.slab? 2 = some sl ∧ (sl.state = .available ∨ sl.state = .allocated) ∧ (choosing.decode sl.location).searchable = true ∧
      sl.placements.length < 24 ∧ choosing.inQuarantine sl = false ∧ choosing.groupFree 2 41 (piece .unplaced) ∧
      sl.fitsAt choosing.pln.kerf (piece .unplaced) 10 10 false ∧
      ∀ id' sl', choosing.slab? id' = some sl' → id' ≠ 2 →
        (sl.kind = .remnant ∧ sl'.kind = .slab) ∨ (sl.kind = sl'.kind ∧ (sl.xExt * sl.yExt < sl'.xExt * sl'.yExt ∨
          (sl.xExt * sl.yExt = sl'.xExt * sl'.yExt ∧ 2 < id')))) := by
  and_intros <;> try decide +kernel
  intro id sl h hn
  rcases slabs_of_choosing id sl h with ⟨rfl, rfl⟩ | ⟨rfl, rfl⟩
  · exact .inr ⟨rfl, .inl (by decide)⟩
  · exact absurd rfl hn

theorem witness_JobRecords : ¬(1 ≤ 0 ∧ 0 ≤ 65535) ∧
    (let s := shop [] [(41, job .unplaced)] [];
      s.takesAtOnce ∧ s.job? 42 = none ∧ s.job? 41 = some (job .unplaced)) := by decide +kernel

theorem witness_PieceRecords : (shop [] [(41, job .unplaced)] []).takesAtOnce := by decide +kernel

theorem witness_JobStanding : ¬(1 ≤ 65536 ∧ 65536 ≤ 65535) ∧
    (let s := shop [] [(41, jobIn .opened)] [];
      s.takesAtOnce ∧ s.job? 42 = none ∧ s.job? 41 = some (jobIn .opened) ∧ (∀ e ∈ (jobIn .opened).pieces, e.2.state ≠ .planned ∧ e.2.state ≠ .issued) ∧
        s.stk.slabs.filter (fun e => e.2.placements.any (fun q => q.job == 41 && (q.state == .cut || q.state == .broken))) = []) ∧
    (closing.takesAtOnce ∧ closing.job? 41 = some (job .cut) ∧ (∀ e ∈ (job .cut).pieces, e.2.state ≠ .planned ∧ e.2.state ≠ .issued) ∧
        closing.stk.slabs.filter (fun e => e.2.placements.any (fun q => q.job == 41 && (q.state == .cut || q.state == .broken))) ≠ []) ∧
    (∀ st ∈ [JobState.held, .closing, .closed], (shop [] [(41, jobIn st)] []).job? 41 = some (jobIn st) ∧ (jobIn st).state ≠ .opened) ∧
    (let s := shop [] [(41, jobIn .held)] [(2, saw [{ step1 (.cut 41 1) .queued with token := none }])];
      s.takesAtOnce ∧ s.job? 41 = some (jobIn .held)) ∧
    (∀ st ∈ [StepState.waitingWater, .offered, .inProgress, .halting, .inDoubt],
      let h := step1 (.cut 41 1) st;
      let s := shop [] [(41, jobIn .opened)] [(2, saw [h, { step1 (.cut 41 2) .queued with number := 2, token := none }])];
      s.takesAtOnce ∧ s.job? 41 = some (jobIn .opened) ∧ s.headLaw ∧ s.head? 2 = some h ∧ h.state ≠ .queued ∧
        (after (.jobHold 1#8 (.fields ⟨41⟩)) s).head? 2 = some h) := by decide +kernel

theorem witness_RateSetsAndAccount : r.takesAtOnce ∧ 3 ≤ 3 ∧ Rounding.code .down = 2 ∧ true.toNat = 1 ∧ 3 < 4 ∧ 2 < 3 ∧ 1 < 2 ∧ 0 ≤ 1 := by
  decide +kernel

/-! ### Witnesses: stations, their queues, the flags and the line settings -/

theorem witness_StationRecords :
    (let s := oneSaw [];
      s.takesAtOnce ∧ s.station? 8 = none ∧ (∀ e ∈ s.dsp.stations, e.2.address ≠ 119) ∧ 1 ≤ 8 ∧ 8 ≤ 8 ∧ 119 ≤ 119 ∧ 99999999 ≤ 99999999 ∧
        StationClass.code .waterjet = 2 ∧ s.station? 2 ≠ none ∧ (∃ e ∈ s.dsp.stations, e.2.address = 18)) ∧
    ¬(1 ≤ 9 ∧ 9 ≤ 8) ∧ ¬(1 ≤ 120 ∧ 120 ≤ 119) ∧
    (oneSaw []).station? 2 = some (saw []) ∧ (saw []).loaded = none ∧ (saw []).queue = [] ∧
    (sawIn (fun st => { st with loaded := some 1 })).station? 2 = some { saw [] with loaded := some 1 } := by decide +kernel

theorem witness_UnloadTakesSlabOff :
    (let s := cutting .offered;
      s.takesAtOnce ∧ 65535 < 65536 ∧ ¬(1 ≤ 0 ∧ 0 ≤ 8) ∧ s.station? 8 = none ∧ (s.head? 2).map (·.state) = some .offered) ∧
    (lost.takesAtOnce ∧ lost.station? 2 =
        some { saw [step1 (.cut 41 1) .inDoubt] with loaded := some 1, condition := .unreachable } ∧ (step1 (.cut 41 1) .inDoubt).grantHeld = false ∧
      lost.job? 41 = some (job .issued) ∧ lost.piece? 41 1 = some (piece .issued) ∧ lost.placement? 41 1 = some (1, cutAt .issued) ∧
      ∀ e ∈ lost.dsp.stations, ∀ h ∈ e.2.queue, h.kind = .cut 41 1 → e.1 = 2 ∧ h.number = 1) ∧
    ((ending (.trim 100) .inDoubt false).head? 2 = some (step1 (.trim 100) .inDoubt) ∧
      (ending (.trim 100) .inDoubt false).slab? 1 = some { loadedStone .planned with placements := [] }) ∧
    (let s := shop [(1, loadedStone .planned)] [(41, job .planned)] [(2, { saw [] with loaded := some 1 })];
      s.takesAtOnce ∧ s.station? 2 = some { saw [] with loaded := some 1 } ∧ s.slab? 1 = some (loadedStone .planned) ∧
      65281 ≤ 65281 ∧ 65288 ≤ 65288 ∧ 65535 ≤ 65535 ∧ ¬(65281 ≤ 65289 ∧ 65289 ≤ 65288)) ∧
    (let q := [{ step1 (.cut 41 1) .queued with token := none }, { step1 (.trim 10) .queued with number := 2, token := none }];
      let s := shop [(1, loadedStone .issued)] [(41, job .issued)] [(2, { saw q with loaded := some 1 })];
      s.takesAtOnce ∧ s.station? 2 = some { saw q with loaded := some 1 } ∧ s.slab? 1 = some (loadedStone .issued) ∧
      (∀ h ∈ q.head?, h.state ≠ .inDoubt ∧ h.state ≠ .offered ∧ h.state ≠ .inProgress ∧ h.state ≠ .halting) ∧ ∀ h ∈ q.tail, h.state = .queued) := by
  decide +kernel

def trimReq (len : Nat) : StepQueueReq :=
  { slot := 2, kind := 1, job := 0, piece := 0, trim := len, winMin := 0, winMax := 0, targetA := 0, targetB := 0, form := 0, gate := none }
def cutReq : StepQueueReq := { trimReq 0 with kind := 0, job := 41, piece := 1 }
/-- Whether a STEP QUEUE's values lie in their ranges (R91). -/
abbrev validReq (q : StepQueueReq) : Prop :=
  (1 ≤ q.slot ∧ q.slot ≤ 8) ∧ q.kind ≤ 2 ∧ (q.kind = 0 → (1 ≤ q.job ∧ q.job ≤ 65535) ∧ (1 ≤ q.piece ∧ q.piece ≤ 40)) ∧ (q.kind = 1 → 10 ≤ q.trim ∧ q.trim ≤ 10000) ∧
    (q.kind = 2 → 50 ≤ q.winMin ∧ q.winMin < q.winMax ∧ q.winMax ≤ 1000 ∧ (1 ≤ q.targetA ∧ q.targetA ≤ 15) ∧ (1 ≤ q.targetB ∧ q.targetB ≤ 15) ∧
      q.targetA ≠ q.targetB ∧ q.form ≤ 1) ∧
    ∀ g ∈ q.gate, g.flag ≤ 15 ∧ g.sense ≤ 1
theorem witness_StepJoinsQueue : ¬validReq (trimReq 9) ∧ ¬validReq (trimReq 10001) ∧ validReq (trimReq 10) ∧ validReq (trimReq 10000) ∧ validReq cutReq ∧
    ¬validReq { cutReq with job := 0 } ∧ ¬validReq { cutReq with piece := 41 } ∧
    validReq { trimReq 0 with kind := 2, winMin := 50, winMax := 1000, targetA := 1, targetB := 15, form := 1, gate := some ⟨15, 1⟩ } ∧
    ((oneSaw []).takesAtOnce ∧ (oneSaw []).station? 2 = some (saw []) ∧ (saw []).loaded = none ∧ (oneSaw []).piece? 41 1 = none) ∧
    (∀ n ∈ [0, 1, 15, 16],
      let q := List.replicate n { step1 (.trim 10) .queued with token := none };
      let s := shop [(1, loadedStone .planned)] [(41, job .planned)] [(2, { saw q with loaded := some 1 })];
      s.takesAtOnce ∧ s.station? 2 = some { saw q with loaded := some 1 } ∧ s.piece? 41 1 ≠ none ∧
      s.placement? 41 1 = some (1, cutAt .planned) ∧ (cutAt .planned).state = .planned ∧ q.length = n) ∧
    (oneSaw []).flag 0 = true := by
  and_intros <;> decide +kernel

/-- A station that holds a slab and no step, in a loop of a given state. -/
def thirsty (st : LoopState) (valve supply : Bool) (tail : List WaitEntry) : State :=
  onLoop (fun w => { w with state := st, waitList := tail, settings := { w.settings with supply := supply } })
    (onPoint 1 (fun p => { p with mode := if valve then .function else .input })
      (shop [(1, { loadedStone .planned with placements := [] })] [] [(2, { saw [] with loaded := some 1 })]))
theorem witness_HeadAsksForWater :
    (∀ s ∈ [thirsty .off true true [], thirsty .running false true [], thirsty .running true false [], thirsty .purgeWait true true [],
        thirsty .running true true [⟨1, 24⟩], thirsty .running true true []],
      s.takesAtOnce ∧ s.station? 2 = some { saw [] with loaded := some 1 } ∧ (trimReq 10).gate = none ∧ (trimReq 10).trim ≤ (saw []).toolLife) ∧
    (let s := thirsty .off true true [];
      ¬(s.wlc.state = .running ∨ s.wlc.state = .purgeWait ∨ s.wlc.state = .purging)) ∧
    (let s := thirsty .running false true [];
      s.wlc.deferred = .none ∧ s.inFunction (2 - 1) = false) ∧
    (let s := thirsty .running true true [];
      s.inFunction (2 - 1) = true ∧ s.wlc.waitList = [] ∧ s.wlc.settings.supply = true ∧ s.wlc.throttled = false ∧ s.wlc.sumpHigh = false ∧
        (s.wlc.grants.map (fun e => e.2.flow)).sum + min 24 s.wlc.settings.pump ≤ s.wlc.settings.pump) ∧
    (thirsty .running true true [⟨1, 24⟩]).wlc.waitList ≠ [] ∧ (thirsty .running true false []).wlc.settings.supply ≠ true ∧
    (thirsty .purgeWait true true []).wlc.state ≠ .running ∧
    (let s := shop [(1, loadedStone .planned)] [(41, job .planned)] [(2, { saw [] with loaded := some 1, toolLife := 400 })];
      s.takesAtOnce ∧ s.station? 2 = some { saw [] with loaded := some 1, toolLife := 400 } ∧ s.job? 41 = some (job .planned) ∧
        (job .planned).state ≠ .held ∧ s.piece? 41 1 ≠ none ∧ s.placement? 41 1 = some (1, cutAt .planned) ∧ (cutAt .planned).state = .planned ∧
        2 * ((cutAt .planned).w + (cutAt .planned).h) ≤ 400 ∧ s.flag 0 = (1 == 1)) := by decide +kernel

/-- A PROBE that gate flag 0 lets pass or not, and one step for each stop of the examination. -/
def gated (kind sense : Nat) : StepQueueReq :=
  { slot := 2, kind := kind, job := 41, piece := 1, trim := 10, winMin := 50, winMax := 1000, targetA := 1, targetB := 15, form := 1,
    gate := some ⟨0, sense⟩ }
def gatedAt (life : Nat) (st : JobState) : State :=
  shop [(1, loadedStone .planned)] [(41, { job .planned with state := st })] [(2, { saw [] with loaded := some 1, toolLife := life })]
theorem witness_HeadAsksForWater_stops :
    (∀ g ∈ (gated 2 0).gate, g.flag ≤ 15 ∧ g.sense ≤ 1) ∧ (gatedAt 400 .opened).flag 0 ≠ (0 == 1) ∧ (gatedAt 400 .opened).flag 0 = (1 == 1) ∧
    (∀ s ∈ [gatedAt 400 .held, gatedAt 399 .opened],
      s.takesAtOnce ∧ s.piece? 41 1 ≠ none ∧ s.placement? 41 1 = some (1, cutAt .planned)) ∧
    (gatedAt 400 .held).job? 41 = some { job .planned with state := .held } ∧ 399 < 2 * ((cutAt .planned).w + (cutAt .planned).h) ∧
    (let q := gated 2 1;
      50 ≤ q.winMin ∧ q.winMin < q.winMax ∧ q.winMax ≤ 1000 ∧ (1 ≤ q.targetA ∧ q.targetA ≤ 15) ∧ (1 ≤ q.targetB ∧ q.targetB ≤ 15) ∧
        q.targetA ≠ q.targetB ∧ q.form ≤ 1) := by decide +kernel
/-- R98, R100: a STRICT probe whose gate fails sets its targets false and leaves the queue; one whose gate passes is offered with no grant. -/
theorem test_probe_skipped_or_offered :
    let s := { gatedAt 0 .held with dsp := { (gatedAt 0 .held).dsp with flags := Vector.replicate 16 true } };
    let skipped := after (.stepQueue 1#8 (.fields (gated 2 0))) s;
    let offered := after (.stepQueue 1#8 (.fields (gated 2 1))) s;
    (skipped.head? 2).isNone ∧ (List.range 16).filter (fun k => !skipped.flag k) = [1, 15] ∧
    (offered.head? 2).map (fun h => (h.state, h.grantHeld)) = some (.offered, false) ∧ offered.wlc = s.wlc := by decide +kernel

theorem witness_StepCancelAndAbort :
    (let q := [{ step1 (.trim 10) .inProgress with number := 5 }, { step1 (.cut 41 1) .queued with token := none }];
      let s := shop [(1, loadedStone .issued)] [(41, job .issued)] [(2, { saw q with loaded := some 1 })];
      s.takesAtOnce ∧ s.station? 2 = some { saw q with loaded := some 1 } ∧ (∀ h ∈ q, h.number ≠ 7) ∧
        q = [{ step1 (.trim 10) .inProgress with number := 5 }] ++ { step1 (.cut 41 1) .queued with token := none } :: [] ∧
        s.piece? 41 1 = some (piece .issued) ∧ s.placement? 41 1 = some (1, cutAt .issued)) ∧
    (∀ st ∈ [StepState.queued, .waitingWater, .offered, .inProgress, .halting, .inDoubt],
      (cutting st).takesAtOnce ∧ (cutting st).head? 2 = some (step1 (.cut 41 1) st)) ∧
    (oneSaw []).head? 2 = none ∧ ¬((1 ≤ 2 ∧ 2 ≤ 8) ∧ (1 ≤ 0 ∧ 0 ≤ 65535)) ∧ ¬((1 ≤ 9 ∧ 9 ≤ 8) ∧ (1 ≤ 1 ∧ 1 ≤ 65535)) := by decide +kernel

theorem witness_StationStanding : (oneSaw []).takesAtOnce ∧ (oneSaw []).station? 8 = none ∧ ¬(1 ≤ 9 ∧ 9 ≤ 8) ∧
    (∀ hold ∈ [true, false], ∀ c ∈ [Condition.ready, .fault], ∀ q ∈ [[], [step1 (.trim 10) .queued], [step1 (.trim 10) .waitingWater], [step1 (.trim 10) .inProgress]],
      let s := shop [] [] [(2, { saw q with hold := hold, condition := c })];
      s.takesAtOnce ∧ s.station? 2 = some { saw q with hold := hold, condition := c }) ∧
    99999999 ≤ 99999999 ∧ 99999999 < 100000000 := by decide +kernel

theorem witness_FlagsAndLineSettings : r.takesAtOnce ∧ (List.replicate 16 (some 1)).length = 16 ∧
    (∀ w ∈ List.replicate 16 (some 1), ∀ v ∈ w, v ≤ 1) ∧ (∃ w ∈ [none, some 2], ∃ v ∈ w, 1 < v) := by decide +kernel

/-! ### Witnesses: the water loop's requests -/

theorem witness_LoopSettingsWritten : r.takesAtOnce ∧ noLoopSet.pump = none ∧
    (let o := r.wlc.settings;
      o.reserve < o.low ∧ o.low < o.high ∧ o.high ≤ o.capacity ∧ (r.wlc.grants.map (fun e => e.2.flow)).sum ≤ o.pump) ∧
    ¬(∀ v ∈ (some 8 : Option Nat), v ≤ 7) ∧
    (let s := onLoop (fun w => { w with grants := [(2, ⟨80, 80⟩)] }) r;
      s.takesAtOnce ∧ 79 < (s.wlc.grants.map (fun e => e.2.flow)).sum) ∧
    (let s := onLoop (fun w => { w with waitList := [⟨2, 80⟩] }) r;
      s.takesAtOnce ∧ s.wlc.state ≠ .priming) ∧
    (let s := onLoop (fun w => { w with state := .priming, priming := some ⟨true, 0⟩ }) r;
      s.takesAtOnce ∧ s.wlc.state = .priming) := by decide +kernel

theorem witness_LoopStartsAndPurges :
    (let s := onPoint 15 (fun p => { p with mode := .function, level := true }) r;
      s.takesAtOnce ∧ (s.point 15).mode = .function ∧ (s.point 15).level = true) ∧
    (∀ st ∈ [LoopState.off, .stopped, .priming, .running, .manual], let s := onLoop (fun w => { w with state := st }) r;
      s.takesAtOnce ∧ ¬((s.point 15).mode = .function ∧ (s.point 15).level = true) ∧ s.wlc.state = st) ∧
    (∀ yes ∈ [true, false], let s := onLoop (fun w => { w with settings := { w.settings with prime := yes } }) r;
      s.wlc.settings.prime = yes ∧ s.wlc.priming = none) ∧
    (let s := onLoop (fun w => { w with due := true }) r;
      s.wlc.due = true ∧ s.wlc.grants = []) ∧
    (let s := onLoop (fun w => { w with state := .running, grants := [(2, ⟨24, 24⟩)] }) r;
      s.takesAtOnce ∧ s.wlc.grants ≠ []) ∧
    (busy.point 9).mode = .function ∧ (busy.point 8).mode = .function := by decide +kernel

theorem witness_LoopStandsBy :
    (∀ c ∈ [(LoopState.running, Deferred.none), (.purgeWait, .none), (.purging, .none), (.purging, .standby), (.purging, .handover), (.standby, .none),
        (.standbyWait, .none), (.handoverWait, .none), (.standbyPurge, .none), (.standbyPurge, .resume), (.manual, .none), (.off, .none)],
      ∀ g ∈ [[], [(2, ⟨24, 24⟩)]], ∀ due ∈ [true, false], ∀ e ∈ [none, some 5],
      let s := onLoop (fun w => { w with state := c.1, deferred := c.2, grants := g, due := due, purgeEnd := e }) r;
      s.takesAtOnce ∧ s.wlc.state = c.1 ∧ s.wlc.deferred = c.2 ∧ s.wlc.grants = g ∧ s.wlc.due = due ∧ s.wlc.purgeEnd = e) ∧
    (0 : Nat) ≠ 1 ∧ (3 : Nat) ≠ 1 ∧ (3 : Nat) ≠ 2 := by decide +kernel

/-! ### Witnesses: what every step keeps -/

/-- A step from a lawful state: the station of a running CUT reports it DONE. -/
def running : State := { cutting .inProgress with pending := [.alert (told 9#8 (done 60))] }
theorem witness_RecordsKept : step running = .next (after (.alert (told 9#8 (done 60))) (cutting .inProgress)) ∧
    running.tablesSorted ∧ running.tablesBounded ∧ running.headLaw ∧ running.linkBounded ∧ running.wlc.settings.lawful ∧ running.flagZero ∧
    (onLine (fun c => { c with sendList := [.flowSet 2 24, .halt 2 9 false, .halt 3 9 false] }) running).sendLaw := by
  and_intros <;> first | rfl | decide +kernel
theorem witness_WaterLawKept : running.waterLaw ∧
    (onLoop (fun w => { w with state := .running, grants := [(2, ⟨24, 24⟩), (3, ⟨96, 96⟩)] }) running).waterLaw := by decide +kernel
theorem witness_MoneyKept : running.moneyCapped ∧ running.job? 41 = some (job .issued) ∧
    (after (.alert (told 9#8 (done 60))) running).job? 41 ≠ none := by decide +kernel
theorem witness_PointsSettledKept : running.pointsSettled ∧ (onPoint 31 (fun p => { p with plant := true, level := true }) running).pointsSettled := by
  decide +kernel
theorem witness_LoadedLawKept : running.stk.slabs.sorted ∧ running.dsp.stations.sorted ∧
    (∀ e ∈ running.stk.slabs, e.2.state = .loaded ∧ e.2.loadedOn = some 2 ∧ floorSlot? e.2.location = some 2) ∧
    (running.station? 2).bind (·.loaded) = some 1 ∧ (running.slab? 1).bind (·.loadedOn) = some 2 := by decide +kernel
theorem loadedLaw_of_running : running.loadedLaw := by
  have one : ∀ n, floorSlot? 65282 = some n ↔ (some 2 : Option Nat) = some n := fun n => by
    rw [show floorSlot? 65282 = some 2 from by decide +kernel]
  refine ⟨?_, ?_, ?_, by decide +kernel⟩
  · intro e he
    rw [show running.stk.slabs = [(1, loadedStone .issued)] from rfl, List.mem_singleton] at he
    subst he
    exact ⟨by decide +kernel, one⟩
  · intro e he n hn
    rw [show running.stk.slabs = [(1, loadedStone .issued)] from rfl, List.mem_singleton] at he
    subst he
    cases hn
    decide +kernel
  · intro e he id hid
    rw [show running.dsp.stations = [(2, { saw [step1 (.cut 41 1) .inProgress] with loaded := some 1, condition := .working })] from rfl,
      List.mem_singleton] at he
    subst he
    cases hid
    decide +kernel
theorem witness_StoneLawKept : running.stk.slabs.sorted ∧ running.geometryLaw ∧ choosing.stk.slabs.sorted ∧ choosing.geometryLaw := by decide +kernel

end Sys2Proof.Tests
end

section
/-!
PROOF. The reasoning rules that the requests of class 1 need: how a request that is taken at once answers, what the codes and the clamp of a
setting read as, and what a write to the stock table or to a capped account leaves. Then the requests that write zones (R8) and the receipt (R11).
-/
namespace Sys2Proof.Machine

/-! ### A request that is taken at once (R174) -/

theorem State.takeRequest_of_takesAtOnce {s : State} (hs : s.takesAtOnce) (f : ReqFrame) (act : State → State × Reply) :
    s.takeRequest f act = s.actOn f act := by
  obtain ⟨hrestart, hlist, hroom⟩ := hs
  simp [State.takeRequest, hrestart, hlist, State.replyRoom, hroom]

/-- Where a request leads within its event, it leads as an event of its own, if the count of the frames handed over is as before it. -/
theorem request_of_takesAtOnce {α : Type} {parse : List Byte → Option α} {write : α → List Byte} {act : α → State → State × Reply}
    {kind : Byte} {r : α} {s t : State} {rep : Reply} (hs : s.takesAtOnce) (tag : Byte) (hact : act r s.beginEvent = (t.beginEvent, rep))
    (hjoined : t.slc.joined = s.slc.joined) :
    request kind parse write tag (.fields r) act s = .next (State.addReply (replyKind kind) tag rep t) := by
  have hend : State.endEvent s t.beginEvent = t := by unfold State.endEvent State.beginEvent; rw [← hjoined]
  simp only [request, State.takeRequest_of_takesAtOnce hs, State.actOn, Body.read, hact, hend]

theorem exec_zoneSet (tag : Byte) (body : Body ZoneSetReq) (s : State) :
    exec (.zoneSet tag body) s = request 0x17#8 ZoneSetReq.read ZoneSetReq.write tag body zoneSet s := rfl

theorem exec_defaultZoneSet (tag : Byte) (body : Body DefaultZoneSetReq) (s : State) :
    exec (.defaultZoneSet tag body) s = request 0x18#8 DefaultZoneSetReq.read DefaultZoneSetReq.write tag body defaultZoneSet s :=
  rfl

theorem exec_slabReceive (tag : Byte) (body : Body SlabReceiveReq) (s : State) :
    exec (.slabReceive tag body) s = request 0x10#8 SlabReceiveReq.read SlabReceiveReq.write tag body slabReceive s := rfl

/-! ### Codes, marks and the clamp (R176, R183) -/

theorem within_iff {lo hi v : Nat} : within lo hi v = true ↔ lo ≤ v ∧ v ≤ hi := by simp [within]

theorem ZoneKind.ofCode?_eq_some {n : Nat} {k : ZoneKind} : ZoneKind.ofCode? n = some k ↔ k.code = n := by
  match n with
  | 0 => cases k <;> simp [ofCode?, code]
  | 1 => cases k <;> simp [ofCode?, code]
  | _ + 2 => cases k <;> simp [ofCode?, code]

theorem ZoneKind.code_le (k : ZoneKind) : k.code ≤ 1 := by cases k <;> decide

theorem yesNo?_eq_some {n : Nat} {b : Bool} : yesNo? n = some b ↔ b.toNat = n := by
  match n with
  | 0 => cases b <;> simp [yesNo?]
  | 1 => cases b <;> simp [yesNo?]
  | _ + 2 => cases b <;> simp [yesNo?]

theorem mark_eq (b : Bool) : mark b = u8 b.toNat := by cases b <;> rfl

theorem clampTo_zero (hi v : Nat) : clampTo 0 hi v = min v hi := by unfold clampTo; grind

/-- A clamp from above changes a value exactly where it exceeds the bound, and then the request answers ADJUSTED. -/
theorem acceptClamped_min (hi v : Nat) (results : List Byte) (s : State) :
    acceptClamped (min v hi != v) results s = (s, ⟨if v ≤ hi then .ok else .adjusted, results⟩) := by
  by_cases h : v ≤ hi
  · simp [acceptClamped, h]
  · have hne : min v hi ≠ v := by omega
    simp [acceptClamped, h, hne]

theorem floorSlot?_isSome {code : Nat} : (floorSlot? code).isSome = true ↔ 65281 ≤ code ∧ code ≤ 65288 := by
  unfold floorSlot? Config.floorBase
  split <;> simp <;> omega

/-! ### Writes to the stock table and to a capped account (R4, R73) -/

theorem Tbl.modify_of_get?_eq_none {α : Type} {t : Tbl α} {k : Nat} (h : t.get? k = none) (f : α → α) : t.modify k f = t := by
  have hkeep : ∀ e ∈ t, (if e.1 = k then (e.1, f e.2) else e) = e := fun e he => if_neg (Tbl.get?_eq_none.mp h e he)
  exact (List.map_congr_left hkeep).trans (List.map_id t)

theorem Tbl.modify_cons {α : Type} (e : Nat × α) (t : Tbl α) (k : Nat) (f : α → α) :
    Tbl.modify (e :: t) k f = (if e.1 = k then (e.1, f e.2) else e) :: t.modify k f := rfl

/-- A record written under a new number and then changed is the changed record written. -/
theorem Tbl.modify_put {α : Type} {t : Tbl α} {k : Nat} (h : t.get? k = none) (v : α) (f : α → α) :
    (t.put k v).modify k f = t.put k (f v) := by
  induction t with
  | nil => simp [Tbl.put, Tbl.modify]
  | cons e t ih =>
    have hrest := Tbl.modify_of_get?_eq_none h f
    obtain ⟨hne, ht⟩ : e.1 ≠ k ∧ Tbl.get? t k = none := by rw [Tbl.get?_cons] at h; grind
    by_cases hlt : k < e.1
    · rw [Tbl.put, Tbl.put, if_pos hlt, if_pos hlt, Tbl.modify_cons, if_pos rfl, hrest]
    · rw [Tbl.put, Tbl.put, if_neg hlt, if_neg hne, if_neg hlt, if_neg hne, Tbl.modify_cons, if_neg hne, ih ht]

theorem satAdd_eq (cap v a : Nat) : satAdd cap v a = (min (v + a) cap, v + a - cap) := by
  unfold satAdd
  split <;> ext <;> dsimp only <;> omega

theorem State.addOverhead_eq (a : Nat) (s : State) :
    s.addOverhead a = { s with job := { s.job with overhead := min (s.job.overhead + a) Config.overheadCap } } := by
  rw [State.addOverhead, satAdd_eq]

theorem State.slab?_addOverhead (s : State) (a id : Nat) : (s.addOverhead a).slab? id = s.slab? id := rfl

/-- A slab that carries a cost, cut at the cap with the mark set where it exceeds it (R4). -/
def Slab.carrying (sum : Nat) (sl : Slab) : Slab :=
  { sl with carried := min sum Config.centsCap, capped := sl.capped || decide (Config.centsCap < sum) }

@[simp] theorem Slab.carrying_carried (sum : Nat) (sl : Slab) : (sl.carrying sum).carried = min sum Config.centsCap := rfl

/-- A charge to a slab: the slab carries the sum up to the cap, and the excess goes to overhead. -/
theorem State.addCarried_of_slab? {s : State} {id : Nat} {sl : Slab} (h : s.slab? id = some sl) (a : Nat) :
    s.addCarried id a = (s.modSlab id (Slab.carrying (sl.carried + a))).addOverhead (sl.carried + a - Config.centsCap) := by
  have hcapped : decide (sl.carried + a - Config.centsCap ≠ 0) = decide (Config.centsCap < sl.carried + a) :=
    decide_eq_decide.mpr Nat.sub_ne_zero_iff_lt
  simp only [State.addCarried, h, satAdd_eq, hcapped]
  rfl

/-- A new record that is charged at once: the charged record stands in the table, and the excess goes to overhead. -/
theorem State.addCarried_putSlab {s : State} {id : Nat} (h : s.slab? id = none) (sl : Slab) (a : Nat) :
    (s.putSlab id sl).addCarried id a =
      (s.putSlab id (sl.carrying (sl.carried + a))).addOverhead (sl.carried + a - Config.centsCap) := by
  have hsl : (s.putSlab id sl).slab? id = some sl := by rw [State.slab?_putSlab, if_pos rfl]
  have hmod : (s.putSlab id sl).modSlab id (Slab.carrying (sl.carried + a)) = s.putSlab id (sl.carrying (sl.carried + a)) := by
    simp only [State.modSlab, State.putSlab, Tbl.modify_put h]
  rw [State.addCarried_of_slab? hsl, hmod]

/-! ### Zones (R8) -/

/-- A ZONE SET whose fields are all in their lists writes the whole window. -/
theorem zoneSet_of_valid {r : ZoneSetReq} {kind : ZoneKind} {search enabled : Bool} (hwindow : 1 ≤ r.window ∧ r.window ≤ 8)
    (hkind : kind.code = r.kind) (hsearch : search.toNat = r.search) (henabled : enabled.toNat = r.enabled) (s : State) :
    let z : ZoneWindow := { base := r.base, mask := r.mask, kind := kind, search := search, charge := min r.charge 99999, enabled := enabled }
    zoneSet r s =
      ({ s with stk := { s.stk with zones := s.stk.zones.setIfInBounds (r.window - 1) z } },
        ⟨if r.charge ≤ 99999 then .ok else .adjusted,
          u16 r.base ++ u16 r.mask ++ u8 r.kind ++ u8 r.search ++ u32 (min r.charge 99999) ++ u8 r.enabled⟩) := by
  simp only [zoneSet, within_iff.mpr hwindow, ZoneKind.ofCode?_eq_some.mpr hkind, yesNo?_eq_some.mpr hsearch, yesNo?_eq_some.mpr henabled,
    clampTo_zero, acceptClamped_min, ZoneWindow.bytes, mark_eq, hkind, hsearch, henabled, Config.chargeCap]

/-- A ZONE SET with a field outside its list is refused whole. -/
theorem zoneSet_of_invalid {r : ZoneSetReq} (h : r.window < 1 ∨ 8 < r.window ∨ 1 < r.kind ∨ 1 < r.search ∨ 1 < r.enabled) (s : State) :
    zoneSet r s = (s, ⟨.badValue, []⟩) := by
  unfold zoneSet
  split
  · next kind search enabled hwindow hkind hsearch henabled =>
    rw [within_iff] at hwindow
    rw [ZoneKind.ofCode?_eq_some] at hkind
    rw [yesNo?_eq_some] at hsearch henabled
    have := kind.code_le
    have := search.toNat_le
    have := enabled.toNat_le
    omega
  · rfl

/-- A DEFAULT ZONE SET whose fields are all in their lists writes the whole default zone. -/
theorem defaultZoneSet_of_valid {r : DefaultZoneSetReq} {kind : ZoneKind} {search : Bool} (hkind : kind.code = r.kind)
    (hsearch : search.toNat = r.search) (s : State) :
    defaultZoneSet r s =
      ({ s with stk := { s.stk with defaultZone := { kind := kind, search := search, charge := min r.charge 99999 } } },
        ⟨if r.charge ≤ 99999 then .ok else .adjusted, u8 r.kind ++ u8 r.search ++ u32 (min r.charge 99999)⟩) := by
  simp only [defaultZoneSet, ZoneKind.ofCode?_eq_some.mpr hkind, yesNo?_eq_some.mpr hsearch, clampTo_zero, acceptClamped_min, mark_eq, hkind,
    hsearch, Config.chargeCap]

/-- A DEFAULT ZONE SET with a field outside its list is refused whole. -/
theorem defaultZoneSet_of_invalid {r : DefaultZoneSetReq} (h : 1 < r.kind ∨ 1 < r.search) (s : State) :
    defaultZoneSet r s = (s, ⟨.badValue, []⟩) := by
  unfold defaultZoneSet
  split
  · next kind search hkind hsearch =>
    rw [ZoneKind.ofCode?_eq_some] at hkind
    rw [yesNo?_eq_some] at hsearch
    have := kind.code_le
    have := search.toNat_le
    omega
  · rfl

/-- Settles O30: each request answers as its rule says, and a request taken at once has that answer as its step. -/
theorem zonesWritten : Obligations.ZonesWritten := by
  intro tag s hs
  refine ⟨?window, ?windowRefused, ?default, ?defaultRefused⟩
  case window =>
    intro r kind search enabled hlow hhigh hkind hsearch henabled
    rw [exec_zoneSet]
    exact request_of_takesAtOnce hs tag (zoneSet_of_valid ⟨hlow, hhigh⟩ hkind hsearch henabled s.beginEvent) rfl
  case windowRefused =>
    intro r hr
    rw [exec_zoneSet]
    exact request_of_takesAtOnce hs tag (zoneSet_of_invalid hr s.beginEvent) rfl
  case default =>
    intro r kind search hkind hsearch
    refine ⟨u8 r.kind ++ u8 r.search ++ u32 (min r.charge 99999), fun hcut => by rw [Nat.min_eq_right (Nat.le_of_lt hcut)], ?_⟩
    rw [exec_defaultZoneSet]
    exact request_of_takesAtOnce hs tag (defaultZoneSet_of_valid hkind hsearch s.beginEvent) rfl
  case defaultRefused =>
    intro r hr
    rw [exec_defaultZoneSet]
    exact request_of_takesAtOnce hs tag (defaultZoneSet_of_invalid hr s.beginEvent) rfl

/-! ### SLAB RECEIVE (R11) -/

theorem receiptValid_iff {r : SlabReceiveReq} :
    receiptValid r = true ↔
      (1 ≤ r.slabId ∧ r.slabId ≤ 99999999) ∧ (1 ≤ r.material ∧ r.material ≤ 65535) ∧ (50 ≤ r.thickness ∧ r.thickness ≤ 1000) ∧
      (100 ≤ r.xExt ∧ r.xExt ≤ 3600) ∧ (100 ≤ r.yExt ∧ r.yExt ≤ 2200) ∧ r.trim ≤ 50 ∧ r.cost ≤ 99999999 := by
  simp only [receiptValid, slabIdInRange, Bool.and_eq_true, within_iff, decide_eq_true_eq, and_assoc]
  rfl

@[simp] theorem receiptRecord_carried (r : SlabReceiveReq) : (receiptRecord r).carried = r.cost := rfl

@[simp] theorem receiptRecord_carrying_capped (r : SlabReceiveReq) (sum : Nat) :
    ((receiptRecord r).carrying sum).capped = decide (Config.centsCap < sum) := Bool.false_or _

section
variable {r : SlabReceiveReq}

theorem slabReceive_of_invalid (h : receiptValid r ≠ true) (s : State) : slabReceive r s = (s, ⟨.badValue, []⟩) := by
  simp [slabReceive, h, refuse]

variable (hvalid : receiptValid r = true) {s : State}
include hvalid

theorem slabReceive_of_duplicate (h : s.slab? r.slabId ≠ none) : slabReceive r s = (s, ⟨.duplicate, []⟩) := by
  have hhas : s.stk.slabs.has r.slabId = true := Tbl.has_iff.mpr h
  simp [slabReceive, hvalid, hhas, refuse]

variable (hnew : s.slab? r.slabId = none)
include hnew

theorem slabReceive_of_floor (h : (floorSlot? r.location).isSome = true) : slabReceive r s = (s, ⟨.zone, []⟩) := by
  have hhas : s.stk.slabs.has r.slabId = false := congrArg Option.isSome hnew
  simp [slabReceive, hvalid, hhas, h, refuse]

variable (hyard : (floorSlot? r.location).isSome ≠ true)
include hyard

theorem slabReceive_of_full (h : Config.maxSlabs ≤ s.stk.slabs.length) : slabReceive r s = (s, ⟨.full, []⟩) := by
  have hhas : s.stk.slabs.has r.slabId = false := congrArg Option.isSome hnew
  simp [slabReceive, hvalid, hhas, hyard, h, refuse]

/-- A receipt that passes every check enters the record with its charge, and answers with the cost and the mark of that record. -/
theorem slabReceive_of_passed (hroom : ¬Config.maxSlabs ≤ s.stk.slabs.length) {sum : Nat} (hsum : r.cost + (s.decode r.location).charge = sum) :
    slabReceive r s =
      ((s.putSlab r.slabId ((receiptRecord r).carrying sum)).addOverhead (sum - Config.centsCap),
        ⟨.ok, u32 (min sum Config.centsCap) ++ mark (decide (Config.centsCap < sum))⟩) := by
  subst hsum
  have hhas : ¬s.stk.slabs.has r.slabId = true := fun h => Tbl.has_iff.mp h hnew
  have hentered := State.addCarried_putSlab hnew (receiptRecord r) (s.decode r.location).charge
  rw [receiptRecord_carried] at hentered
  rw [slabReceive, if_neg (by simp [hvalid]), if_neg hhas, if_neg hyard, if_neg hroom]
  dsimp only
  rw [hentered, accept, State.costBytes, State.slab?_addOverhead, State.slab?_putSlab, if_pos rfl]
  simp only [Slab.carrying_carried, receiptRecord_carrying_capped]

end

/-- Settles O31: the checks of R11 in their order, each with its answer. -/
theorem slabReceipt : Obligations.SlabReceipt := by
  intro tag r s hs valid floor sum entered
  refine ⟨u32 (min sum 99999999) ++ mark (decide (99999999 < sum)), fun hcut => by rw [Nat.min_eq_right (Nat.le_of_lt hcut), decide_eq_true hcut], ?_⟩
  rw [exec_slabReceive]
  by_cases hvalid : valid
  case neg =>
    rw [if_pos hvalid]
    exact request_of_takesAtOnce hs tag (slabReceive_of_invalid (mt receiptValid_iff.mp hvalid) s.beginEvent) rfl
  rw [if_neg (not_not_intro hvalid)]
  replace hvalid := receiptValid_iff.mpr hvalid
  by_cases hnew : s.slab? r.slabId = none
  case neg =>
    rw [if_pos hnew]
    exact request_of_takesAtOnce hs tag (slabReceive_of_duplicate (s := s.beginEvent) hvalid hnew) rfl
  rw [if_neg (not_not_intro hnew)]
  by_cases hyard : floor
  case pos =>
    rw [if_pos hyard]
    exact request_of_takesAtOnce hs tag (slabReceive_of_floor (s := s.beginEvent) hvalid hnew (floorSlot?_isSome.mpr hyard)) rfl
  rw [if_neg hyard]
  replace hyard := mt floorSlot?_isSome.mp hyard
  by_cases hroom : 256 ≤ s.stk.slabs.length
  case pos =>
    rw [if_pos hroom]
    exact request_of_takesAtOnce hs tag (slabReceive_of_full (s := s.beginEvent) hvalid hnew hyard hroom) rfl
  rw [if_neg hroom]
  have hpassed := slabReceive_of_passed (s := s.beginEvent) hvalid hnew hyard hroom (sum := sum) rfl
  rw [State.addOverhead_eq] at hpassed
  exact request_of_takesAtOnce hs tag hpassed rfl

end Sys2Proof.Machine
end
